-- ==== Sys2Proof/Word.lean ====
section
/-! DEFINITION. The two bit-vector types (00_scope.md R4: 8-bit data, 16-bit addresses). -/

namespace Sys2Proof

/-- A data byte, 00_scope.md R4. -/
abbrev Byte := BitVec 8

/-- A 16-bit address or program counter, 00_scope.md R4. -/
abbrev Word := BitVec 16

end Sys2Proof
end

