-- ==== Sys2Proof/Config.lean ====
section
/-! DEFINITION. The names the implementation fixes: the 56 operations (30_encoding.md R94), the 13 addressing modes and
their operand forms (40_addressing_modes.md R120, 30_encoding.md R92), and the settings of the parameter REL_DECODE
(00_scope.md R4). The parameters' values stand in Machine/Params.lean. No value is left free: the spec leaves none. -/

namespace Sys2Proof

/-- The 56 operation tags of 30_encoding.md R94. -/
inductive Operation where
  | adc | and | asl | bcc | bcs | beq | bit | bmi | bne | bpl | brk | bvc | bvs | clc | cld | cli
  | clv | cmp | cpx | cpy | dec | dex | dey | eor | inc | inx | iny | jmp | jsr | lda | ldx | ldy
  | lsr | nop | ora | pha | php | pla | plp | rol | ror | rti | rts | sbc | sec | sed | sei | sta
  | stx | sty | tax | tay | tsx | txa | txs | tya
  deriving DecidableEq, Repr

/-- The 13 addressing modes, 40_addressing_modes.md R120. -/
inductive Mode where
  | implicit | immediate | zeroPage | zeroPageX | zeroPageY | indexedIndirect | indirectIndexed
  | accumulator | relative | absolute | absoluteX | absoluteY | indirectAbsolute
  deriving DecidableEq, Repr

/-- A mode with the operand bytes it takes from the instruction, 30_encoding.md R92. -/
inductive Operand where
  | implicit
  | accumulator
  | immediate (b : Byte)
  | zeroPage (b : Byte)
  | zeroPageX (b : Byte)
  | zeroPageY (b : Byte)
  | relative (b : Byte)
  | indexedIndirect (b : Byte)
  | indirectIndexed (b : Byte)
  | absolute (w : Word)
  | absoluteX (w : Word)
  | absoluteY (w : Word)
  | indirectAbsolute (w : Word)
  deriving DecidableEq, Repr

/-- The addressing mode of an operand. -/
def Operand.mode : Operand → Mode
  | .implicit => .implicit
  | .accumulator => .accumulator
  | .immediate _ => .immediate
  | .zeroPage _ => .zeroPage
  | .zeroPageX _ => .zeroPageX
  | .zeroPageY _ => .zeroPageY
  | .relative _ => .relative
  | .indexedIndirect _ => .indexedIndirect
  | .indirectIndexed _ => .indirectIndexed
  | .absolute _ => .absolute
  | .absoluteX _ => .absoluteX
  | .absoluteY _ => .absoluteY
  | .indirectAbsolute _ => .indirectAbsolute

/-- The pairing part of an opcode table entry (30_encoding.md R93). -/
structure Entry where
  op   : Operation
  mode : Mode
  deriving DecidableEq, Repr

/-- The settings of the parameter REL_DECODE (00_scope.md R4, 92_eei_decisions.md D7). -/
inductive RelDecode where
  | asWritten
  | twosComplement
  deriving DecidableEq, Repr

end Sys2Proof
end

