-- ==== Sys2Proof/Syntax.lean ====
section
/-! DEFINITION. The instructions: one constructor of `Instr` per row of spec/opcode_table.json (30_encoding.md R96),
named by the row's mnemonic and, where the mnemonic has several rows, its addressing mode. A constructor carries the
row's operand: one byte `b` (format F2) or one 16-bit word `w` (format F3), already assembled little-endian (R92). -/

namespace Sys2Proof

inductive Instr where
  -- ADC: rule R150
  | adcIndexedIndirect (b : Byte)     -- 0x61  ADC ($nn,X)
  | adcZeroPage (b : Byte)            -- 0x65  ADC $nn
  | adcImmediate (b : Byte)           -- 0x69  ADC #$nn
  | adcAbsolute (w : Word)            -- 0x6D  ADC $nnnn
  | adcIndirectIndexed (b : Byte)     -- 0x71  ADC ($nn),Y
  | adcZeroPageX (b : Byte)           -- 0x75  ADC $nn,X
  | adcAbsoluteY (w : Word)           -- 0x79  ADC $nnnn,Y
  | adcAbsoluteX (w : Word)           -- 0x7D  ADC $nnnn,X
  -- SBC: rule R151
  | sbcIndexedIndirect (b : Byte)     -- 0xE1  SBC ($nn,X)
  | sbcZeroPage (b : Byte)            -- 0xE5  SBC $nn
  | sbcImmediate (b : Byte)           -- 0xE9  SBC #$nn
  | sbcAbsolute (w : Word)            -- 0xED  SBC $nnnn
  | sbcIndirectIndexed (b : Byte)     -- 0xF1  SBC ($nn),Y
  | sbcZeroPageX (b : Byte)           -- 0xF5  SBC $nn,X
  | sbcAbsoluteY (w : Word)           -- 0xF9  SBC $nnnn,Y
  | sbcAbsoluteX (w : Word)           -- 0xFD  SBC $nnnn,X
  -- AND: rule R160
  | andIndexedIndirect (b : Byte)     -- 0x21  AND ($nn,X)
  | andZeroPage (b : Byte)            -- 0x25  AND $nn
  | andImmediate (b : Byte)           -- 0x29  AND #$nn
  | andAbsolute (w : Word)            -- 0x2D  AND $nnnn
  | andIndirectIndexed (b : Byte)     -- 0x31  AND ($nn),Y
  | andZeroPageX (b : Byte)           -- 0x35  AND $nn,X
  | andAbsoluteY (w : Word)           -- 0x39  AND $nnnn,Y
  | andAbsoluteX (w : Word)           -- 0x3D  AND $nnnn,X
  -- ORA: rule R161
  | oraIndexedIndirect (b : Byte)     -- 0x01  ORA ($nn,X)
  | oraZeroPage (b : Byte)            -- 0x05  ORA $nn
  | oraImmediate (b : Byte)           -- 0x09  ORA #$nn
  | oraAbsolute (w : Word)            -- 0x0D  ORA $nnnn
  | oraIndirectIndexed (b : Byte)     -- 0x11  ORA ($nn),Y
  | oraZeroPageX (b : Byte)           -- 0x15  ORA $nn,X
  | oraAbsoluteY (w : Word)           -- 0x19  ORA $nnnn,Y
  | oraAbsoluteX (w : Word)           -- 0x1D  ORA $nnnn,X
  -- EOR: rule R162
  | eorIndexedIndirect (b : Byte)     -- 0x41  EOR ($nn,X)
  | eorZeroPage (b : Byte)            -- 0x45  EOR $nn
  | eorImmediate (b : Byte)           -- 0x49  EOR #$nn
  | eorAbsolute (w : Word)            -- 0x4D  EOR $nnnn
  | eorIndirectIndexed (b : Byte)     -- 0x51  EOR ($nn),Y
  | eorZeroPageX (b : Byte)           -- 0x55  EOR $nn,X
  | eorAbsoluteY (w : Word)           -- 0x59  EOR $nnnn,Y
  | eorAbsoluteX (w : Word)           -- 0x5D  EOR $nnnn,X
  -- BIT: rule R163
  | bitZeroPage (b : Byte)            -- 0x24  BIT $nn
  | bitAbsolute (w : Word)            -- 0x2C  BIT $nnnn
  -- ASL: rule R170
  | aslZeroPage (b : Byte)            -- 0x06  ASL $nn
  | aslAccumulator                    -- 0x0A  ASL
  | aslAbsolute (w : Word)            -- 0x0E  ASL $nnnn
  | aslZeroPageX (b : Byte)           -- 0x16  ASL $nn,X
  | aslAbsoluteX (w : Word)           -- 0x1E  ASL $nnnn,X
  -- LSR: rule R171
  | lsrZeroPage (b : Byte)            -- 0x46  LSR $nn
  | lsrAccumulator                    -- 0x4A  LSR
  | lsrAbsolute (w : Word)            -- 0x4E  LSR $nnnn
  | lsrZeroPageX (b : Byte)           -- 0x56  LSR $nn,X
  | lsrAbsoluteX (w : Word)           -- 0x5E  LSR $nnnn,X
  -- ROL: rule R172
  | rolZeroPage (b : Byte)            -- 0x26  ROL $nn
  | rolAccumulator                    -- 0x2A  ROL
  | rolAbsolute (w : Word)            -- 0x2E  ROL $nnnn
  | rolZeroPageX (b : Byte)           -- 0x36  ROL $nn,X
  | rolAbsoluteX (w : Word)           -- 0x3E  ROL $nnnn,X
  -- ROR: rule R173
  | rorZeroPage (b : Byte)            -- 0x66  ROR $nn
  | rorAccumulator                    -- 0x6A  ROR
  | rorAbsolute (w : Word)            -- 0x6E  ROR $nnnn
  | rorZeroPageX (b : Byte)           -- 0x76  ROR $nn,X
  | rorAbsoluteX (w : Word)           -- 0x7E  ROR $nnnn,X
  -- CMP: rule R181
  | cmpIndexedIndirect (b : Byte)     -- 0xC1  CMP ($nn,X)
  | cmpZeroPage (b : Byte)            -- 0xC5  CMP $nn
  | cmpImmediate (b : Byte)           -- 0xC9  CMP #$nn
  | cmpAbsolute (w : Word)            -- 0xCD  CMP $nnnn
  | cmpIndirectIndexed (b : Byte)     -- 0xD1  CMP ($nn),Y
  | cmpZeroPageX (b : Byte)           -- 0xD5  CMP $nn,X
  | cmpAbsoluteY (w : Word)           -- 0xD9  CMP $nnnn,Y
  | cmpAbsoluteX (w : Word)           -- 0xDD  CMP $nnnn,X
  -- CPX: rule R182
  | cpxImmediate (b : Byte)           -- 0xE0  CPX #$nn
  | cpxZeroPage (b : Byte)            -- 0xE4  CPX $nn
  | cpxAbsolute (w : Word)            -- 0xEC  CPX $nnnn
  -- CPY: rule R183
  | cpyImmediate (b : Byte)           -- 0xC0  CPY #$nn
  | cpyZeroPage (b : Byte)            -- 0xC4  CPY $nn
  | cpyAbsolute (w : Word)            -- 0xCC  CPY $nnnn
  -- INC: rule R190
  | incZeroPage (b : Byte)            -- 0xE6  INC $nn
  | incAbsolute (w : Word)            -- 0xEE  INC $nnnn
  | incZeroPageX (b : Byte)           -- 0xF6  INC $nn,X
  | incAbsoluteX (w : Word)           -- 0xFE  INC $nnnn,X
  -- DEC: rule R191
  | decZeroPage (b : Byte)            -- 0xC6  DEC $nn
  | decAbsolute (w : Word)            -- 0xCE  DEC $nnnn
  | decZeroPageX (b : Byte)           -- 0xD6  DEC $nn,X
  | decAbsoluteX (w : Word)           -- 0xDE  DEC $nnnn,X
  -- INX: rule R192
  | inx                               -- 0xE8  INX
  -- INY: rule R193
  | iny                               -- 0xC8  INY
  -- DEX: rule R194
  | dex                               -- 0xCA  DEX
  -- DEY: rule R195
  | dey                               -- 0x88  DEY
  -- BCC: rule R201
  | bcc (b : Byte)                    -- 0x90  BCC label
  -- BCS: rule R202
  | bcs (b : Byte)                    -- 0xB0  BCS label
  -- BEQ: rule R203
  | beq (b : Byte)                    -- 0xF0  BEQ label
  -- BMI: rule R204
  | bmi (b : Byte)                    -- 0x30  BMI label
  -- BNE: rule R205
  | bne (b : Byte)                    -- 0xD0  BNE label
  -- BPL: rule R206
  | bpl (b : Byte)                    -- 0x10  BPL label
  -- BVC: rule R207
  | bvc (b : Byte)                    -- 0x50  BVC label
  -- BVS: rule R208
  | bvs (b : Byte)                    -- 0x70  BVS label
  -- JMP: rule R215
  | jmpAbsolute (w : Word)            -- 0x4C  JMP $nnnn
  | jmpIndirectAbsolute (w : Word)    -- 0x6C  JMP ($nnnn)
  -- JSR: rule R216
  | jsr (w : Word)                    -- 0x20  JSR $nnnn
  -- RTS: rule R217
  | rts                               -- 0x60  RTS
  -- BRK: rule R219
  | brk                               -- 0x00  BRK
  -- RTI: rule R220
  | rti                               -- 0x40  RTI
  -- PHA: rule R230
  | pha                               -- 0x48  PHA
  -- PHP: rule R231
  | php                               -- 0x08  PHP
  -- PLA: rule R232
  | pla                               -- 0x68  PLA
  -- PLP: rule R233
  | plp                               -- 0x28  PLP
  -- TAX: rule R234
  | tax                               -- 0xAA  TAX
  -- TAY: rule R235
  | tay                               -- 0xA8  TAY
  -- TXA: rule R236
  | txa                               -- 0x8A  TXA
  -- TYA: rule R237
  | tya                               -- 0x98  TYA
  -- TSX: rule R238
  | tsx                               -- 0xBA  TSX
  -- TXS: rule R239
  | txs                               -- 0x9A  TXS
  -- CLC: rule R240
  | clc                               -- 0x18  CLC
  -- CLD: rule R241
  | cld                               -- 0xD8  CLD
  -- CLI: rule R242
  | cli                               -- 0x58  CLI
  -- CLV: rule R243
  | clv                               -- 0xB8  CLV
  -- SEC: rule R244
  | sec                               -- 0x38  SEC
  -- SED: rule R245
  | sed                               -- 0xF8  SED
  -- SEI: rule R246
  | sei                               -- 0x78  SEI
  -- NOP: rule R247
  | nop                               -- 0xEA  NOP
  -- LDA: rule R270
  | ldaIndexedIndirect (b : Byte)     -- 0xA1  LDA ($nn,X)
  | ldaZeroPage (b : Byte)            -- 0xA5  LDA $nn
  | ldaImmediate (b : Byte)           -- 0xA9  LDA #$nn
  | ldaAbsolute (w : Word)            -- 0xAD  LDA $nnnn
  | ldaIndirectIndexed (b : Byte)     -- 0xB1  LDA ($nn),Y
  | ldaZeroPageX (b : Byte)           -- 0xB5  LDA $nn,X
  | ldaAbsoluteY (w : Word)           -- 0xB9  LDA $nnnn,Y
  | ldaAbsoluteX (w : Word)           -- 0xBD  LDA $nnnn,X
  -- LDX: rule R271
  | ldxImmediate (b : Byte)           -- 0xA2  LDX #$nn
  | ldxZeroPage (b : Byte)            -- 0xA6  LDX $nn
  | ldxAbsolute (w : Word)            -- 0xAE  LDX $nnnn
  | ldxZeroPageY (b : Byte)           -- 0xB6  LDX $nn,Y
  | ldxAbsoluteY (w : Word)           -- 0xBE  LDX $nnnn,Y
  -- LDY: rule R272
  | ldyImmediate (b : Byte)           -- 0xA0  LDY #$nn
  | ldyZeroPage (b : Byte)            -- 0xA4  LDY $nn
  | ldyAbsolute (w : Word)            -- 0xAC  LDY $nnnn
  | ldyZeroPageX (b : Byte)           -- 0xB4  LDY $nn,X
  | ldyAbsoluteX (w : Word)           -- 0xBC  LDY $nnnn,X
  -- STA: rule R273
  | staIndexedIndirect (b : Byte)     -- 0x81  STA ($nn,X)
  | staZeroPage (b : Byte)            -- 0x85  STA $nn
  | staAbsolute (w : Word)            -- 0x8D  STA $nnnn
  | staIndirectIndexed (b : Byte)     -- 0x91  STA ($nn),Y
  | staZeroPageX (b : Byte)           -- 0x95  STA $nn,X
  | staAbsoluteY (w : Word)           -- 0x99  STA $nnnn,Y
  | staAbsoluteX (w : Word)           -- 0x9D  STA $nnnn,X
  -- STX: rule R274
  | stxZeroPage (b : Byte)            -- 0x86  STX $nn
  | stxAbsolute (w : Word)            -- 0x8E  STX $nnnn
  | stxZeroPageY (b : Byte)           -- 0x96  STX $nn,Y
  -- STY: rule R275
  | styZeroPage (b : Byte)            -- 0x84  STY $nn
  | styAbsolute (w : Word)            -- 0x8C  STY $nnnn
  | styZeroPageX (b : Byte)           -- 0x94  STY $nn,X
  deriving DecidableEq, Repr

end Sys2Proof
end

