-- ==== Sys2Proof/WellFormed.lean ====
section
/-! DEFINITION. The decoder's view of an instruction (30_encoding.md R90, R93: an operation and an addressing mode) and the
check that the pairing of the two is one the table has (R97: "An operation is never dispatched with a mode outside its
row"). The operands themselves are bit vectors of the width the format gives them (R91), so no operand can be out of range. -/

namespace Sys2Proof

/-- The modes an operation is encoded with, 30_encoding.md R97. -/
def Operation.modes : Operation → List Mode
  | .adc => [.indexedIndirect, .zeroPage, .immediate, .absolute, .indirectIndexed, .zeroPageX, .absoluteY, .absoluteX]
  | .and => [.indexedIndirect, .zeroPage, .immediate, .absolute, .indirectIndexed, .zeroPageX, .absoluteY, .absoluteX]
  | .asl => [.zeroPage, .accumulator, .absolute, .zeroPageX, .absoluteX]
  | .bcc => [.relative]
  | .bcs => [.relative]
  | .beq => [.relative]
  | .bit => [.zeroPage, .absolute]
  | .bmi => [.relative]
  | .bne => [.relative]
  | .bpl => [.relative]
  | .brk => [.implicit]
  | .bvc => [.relative]
  | .bvs => [.relative]
  | .clc => [.implicit]
  | .cld => [.implicit]
  | .cli => [.implicit]
  | .clv => [.implicit]
  | .cmp => [.indexedIndirect, .zeroPage, .immediate, .absolute, .indirectIndexed, .zeroPageX, .absoluteY, .absoluteX]
  | .cpx => [.immediate, .zeroPage, .absolute]
  | .cpy => [.immediate, .zeroPage, .absolute]
  | .dec => [.zeroPage, .absolute, .zeroPageX, .absoluteX]
  | .dex => [.implicit]
  | .dey => [.implicit]
  | .eor => [.indexedIndirect, .zeroPage, .immediate, .absolute, .indirectIndexed, .zeroPageX, .absoluteY, .absoluteX]
  | .inc => [.zeroPage, .absolute, .zeroPageX, .absoluteX]
  | .inx => [.implicit]
  | .iny => [.implicit]
  | .jmp => [.absolute, .indirectAbsolute]
  | .jsr => [.absolute]
  | .lda => [.indexedIndirect, .zeroPage, .immediate, .absolute, .indirectIndexed, .zeroPageX, .absoluteY, .absoluteX]
  | .ldx => [.immediate, .zeroPage, .absolute, .zeroPageY, .absoluteY]
  | .ldy => [.immediate, .zeroPage, .absolute, .zeroPageX, .absoluteX]
  | .lsr => [.zeroPage, .accumulator, .absolute, .zeroPageX, .absoluteX]
  | .nop => [.implicit]
  | .ora => [.indexedIndirect, .zeroPage, .immediate, .absolute, .indirectIndexed, .zeroPageX, .absoluteY, .absoluteX]
  | .pha => [.implicit]
  | .php => [.implicit]
  | .pla => [.implicit]
  | .plp => [.implicit]
  | .rol => [.zeroPage, .accumulator, .absolute, .zeroPageX, .absoluteX]
  | .ror => [.zeroPage, .accumulator, .absolute, .zeroPageX, .absoluteX]
  | .rti => [.implicit]
  | .rts => [.implicit]
  | .sbc => [.indexedIndirect, .zeroPage, .immediate, .absolute, .indirectIndexed, .zeroPageX, .absoluteY, .absoluteX]
  | .sec => [.implicit]
  | .sed => [.implicit]
  | .sei => [.implicit]
  | .sta => [.indexedIndirect, .zeroPage, .absolute, .indirectIndexed, .zeroPageX, .absoluteY, .absoluteX]
  | .stx => [.zeroPage, .absolute, .zeroPageY]
  | .sty => [.zeroPage, .absolute, .zeroPageX]
  | .tax => [.implicit]
  | .tay => [.implicit]
  | .tsx => [.implicit]
  | .txa => [.implicit]
  | .txs => [.implicit]
  | .tya => [.implicit]

/-- The pairing check on a table entry (R97): it refuses an operation with a mode outside its row. -/
def Entry.wellFormed (e : Entry) : Bool := e.op.modes.contains e.mode

/-- The operation of an instruction: its row's mnemonic (R94, R96). -/
def Instr.operation : Instr → Operation
  | .adcIndexedIndirect _ | .adcZeroPage _ | .adcImmediate _ | .adcAbsolute _ | .adcIndirectIndexed _ | .adcZeroPageX _ | .adcAbsoluteY _ | .adcAbsoluteX _ => .adc
  | .sbcIndexedIndirect _ | .sbcZeroPage _ | .sbcImmediate _ | .sbcAbsolute _ | .sbcIndirectIndexed _ | .sbcZeroPageX _ | .sbcAbsoluteY _ | .sbcAbsoluteX _ => .sbc
  | .andIndexedIndirect _ | .andZeroPage _ | .andImmediate _ | .andAbsolute _ | .andIndirectIndexed _ | .andZeroPageX _ | .andAbsoluteY _ | .andAbsoluteX _ => .and
  | .oraIndexedIndirect _ | .oraZeroPage _ | .oraImmediate _ | .oraAbsolute _ | .oraIndirectIndexed _ | .oraZeroPageX _ | .oraAbsoluteY _ | .oraAbsoluteX _ => .ora
  | .eorIndexedIndirect _ | .eorZeroPage _ | .eorImmediate _ | .eorAbsolute _ | .eorIndirectIndexed _ | .eorZeroPageX _ | .eorAbsoluteY _ | .eorAbsoluteX _ => .eor
  | .bitZeroPage _ | .bitAbsolute _ => .bit
  | .aslZeroPage _ | .aslAccumulator | .aslAbsolute _ | .aslZeroPageX _ | .aslAbsoluteX _ => .asl
  | .lsrZeroPage _ | .lsrAccumulator | .lsrAbsolute _ | .lsrZeroPageX _ | .lsrAbsoluteX _ => .lsr
  | .rolZeroPage _ | .rolAccumulator | .rolAbsolute _ | .rolZeroPageX _ | .rolAbsoluteX _ => .rol
  | .rorZeroPage _ | .rorAccumulator | .rorAbsolute _ | .rorZeroPageX _ | .rorAbsoluteX _ => .ror
  | .cmpIndexedIndirect _ | .cmpZeroPage _ | .cmpImmediate _ | .cmpAbsolute _ | .cmpIndirectIndexed _ | .cmpZeroPageX _ | .cmpAbsoluteY _ | .cmpAbsoluteX _ => .cmp
  | .cpxImmediate _ | .cpxZeroPage _ | .cpxAbsolute _ => .cpx
  | .cpyImmediate _ | .cpyZeroPage _ | .cpyAbsolute _ => .cpy
  | .incZeroPage _ | .incAbsolute _ | .incZeroPageX _ | .incAbsoluteX _ => .inc
  | .decZeroPage _ | .decAbsolute _ | .decZeroPageX _ | .decAbsoluteX _ => .dec
  | .inx => .inx
  | .iny => .iny
  | .dex => .dex
  | .dey => .dey
  | .bcc _ => .bcc
  | .bcs _ => .bcs
  | .beq _ => .beq
  | .bmi _ => .bmi
  | .bne _ => .bne
  | .bpl _ => .bpl
  | .bvc _ => .bvc
  | .bvs _ => .bvs
  | .jmpAbsolute _ | .jmpIndirectAbsolute _ => .jmp
  | .jsr _ => .jsr
  | .rts => .rts
  | .brk => .brk
  | .rti => .rti
  | .pha => .pha
  | .php => .php
  | .pla => .pla
  | .plp => .plp
  | .tax => .tax
  | .tay => .tay
  | .txa => .txa
  | .tya => .tya
  | .tsx => .tsx
  | .txs => .txs
  | .clc => .clc
  | .cld => .cld
  | .cli => .cli
  | .clv => .clv
  | .sec => .sec
  | .sed => .sed
  | .sei => .sei
  | .nop => .nop
  | .ldaIndexedIndirect _ | .ldaZeroPage _ | .ldaImmediate _ | .ldaAbsolute _ | .ldaIndirectIndexed _ | .ldaZeroPageX _ | .ldaAbsoluteY _ | .ldaAbsoluteX _ => .lda
  | .ldxImmediate _ | .ldxZeroPage _ | .ldxAbsolute _ | .ldxZeroPageY _ | .ldxAbsoluteY _ => .ldx
  | .ldyImmediate _ | .ldyZeroPage _ | .ldyAbsolute _ | .ldyZeroPageX _ | .ldyAbsoluteX _ => .ldy
  | .staIndexedIndirect _ | .staZeroPage _ | .staAbsolute _ | .staIndirectIndexed _ | .staZeroPageX _ | .staAbsoluteY _ | .staAbsoluteX _ => .sta
  | .stxZeroPage _ | .stxAbsolute _ | .stxZeroPageY _ => .stx
  | .styZeroPage _ | .styAbsolute _ | .styZeroPageX _ => .sty

/-- The addressing mode of an instruction together with its operand bytes (R92, R96). -/
def Instr.operand : Instr → Operand
  | .adcIndexedIndirect b => .indexedIndirect b
  | .adcZeroPage b => .zeroPage b
  | .adcImmediate b => .immediate b
  | .adcAbsolute w => .absolute w
  | .adcIndirectIndexed b => .indirectIndexed b
  | .adcZeroPageX b => .zeroPageX b
  | .adcAbsoluteY w => .absoluteY w
  | .adcAbsoluteX w => .absoluteX w
  | .sbcIndexedIndirect b => .indexedIndirect b
  | .sbcZeroPage b => .zeroPage b
  | .sbcImmediate b => .immediate b
  | .sbcAbsolute w => .absolute w
  | .sbcIndirectIndexed b => .indirectIndexed b
  | .sbcZeroPageX b => .zeroPageX b
  | .sbcAbsoluteY w => .absoluteY w
  | .sbcAbsoluteX w => .absoluteX w
  | .andIndexedIndirect b => .indexedIndirect b
  | .andZeroPage b => .zeroPage b
  | .andImmediate b => .immediate b
  | .andAbsolute w => .absolute w
  | .andIndirectIndexed b => .indirectIndexed b
  | .andZeroPageX b => .zeroPageX b
  | .andAbsoluteY w => .absoluteY w
  | .andAbsoluteX w => .absoluteX w
  | .oraIndexedIndirect b => .indexedIndirect b
  | .oraZeroPage b => .zeroPage b
  | .oraImmediate b => .immediate b
  | .oraAbsolute w => .absolute w
  | .oraIndirectIndexed b => .indirectIndexed b
  | .oraZeroPageX b => .zeroPageX b
  | .oraAbsoluteY w => .absoluteY w
  | .oraAbsoluteX w => .absoluteX w
  | .eorIndexedIndirect b => .indexedIndirect b
  | .eorZeroPage b => .zeroPage b
  | .eorImmediate b => .immediate b
  | .eorAbsolute w => .absolute w
  | .eorIndirectIndexed b => .indirectIndexed b
  | .eorZeroPageX b => .zeroPageX b
  | .eorAbsoluteY w => .absoluteY w
  | .eorAbsoluteX w => .absoluteX w
  | .bitZeroPage b => .zeroPage b
  | .bitAbsolute w => .absolute w
  | .aslZeroPage b => .zeroPage b
  | .aslAccumulator => .accumulator
  | .aslAbsolute w => .absolute w
  | .aslZeroPageX b => .zeroPageX b
  | .aslAbsoluteX w => .absoluteX w
  | .lsrZeroPage b => .zeroPage b
  | .lsrAccumulator => .accumulator
  | .lsrAbsolute w => .absolute w
  | .lsrZeroPageX b => .zeroPageX b
  | .lsrAbsoluteX w => .absoluteX w
  | .rolZeroPage b => .zeroPage b
  | .rolAccumulator => .accumulator
  | .rolAbsolute w => .absolute w
  | .rolZeroPageX b => .zeroPageX b
  | .rolAbsoluteX w => .absoluteX w
  | .rorZeroPage b => .zeroPage b
  | .rorAccumulator => .accumulator
  | .rorAbsolute w => .absolute w
  | .rorZeroPageX b => .zeroPageX b
  | .rorAbsoluteX w => .absoluteX w
  | .cmpIndexedIndirect b => .indexedIndirect b
  | .cmpZeroPage b => .zeroPage b
  | .cmpImmediate b => .immediate b
  | .cmpAbsolute w => .absolute w
  | .cmpIndirectIndexed b => .indirectIndexed b
  | .cmpZeroPageX b => .zeroPageX b
  | .cmpAbsoluteY w => .absoluteY w
  | .cmpAbsoluteX w => .absoluteX w
  | .cpxImmediate b => .immediate b
  | .cpxZeroPage b => .zeroPage b
  | .cpxAbsolute w => .absolute w
  | .cpyImmediate b => .immediate b
  | .cpyZeroPage b => .zeroPage b
  | .cpyAbsolute w => .absolute w
  | .incZeroPage b => .zeroPage b
  | .incAbsolute w => .absolute w
  | .incZeroPageX b => .zeroPageX b
  | .incAbsoluteX w => .absoluteX w
  | .decZeroPage b => .zeroPage b
  | .decAbsolute w => .absolute w
  | .decZeroPageX b => .zeroPageX b
  | .decAbsoluteX w => .absoluteX w
  | .inx => .implicit
  | .iny => .implicit
  | .dex => .implicit
  | .dey => .implicit
  | .bcc b => .relative b
  | .bcs b => .relative b
  | .beq b => .relative b
  | .bmi b => .relative b
  | .bne b => .relative b
  | .bpl b => .relative b
  | .bvc b => .relative b
  | .bvs b => .relative b
  | .jmpAbsolute w => .absolute w
  | .jmpIndirectAbsolute w => .indirectAbsolute w
  | .jsr w => .absolute w
  | .rts => .implicit
  | .brk => .implicit
  | .rti => .implicit
  | .pha => .implicit
  | .php => .implicit
  | .pla => .implicit
  | .plp => .implicit
  | .tax => .implicit
  | .tay => .implicit
  | .txa => .implicit
  | .tya => .implicit
  | .tsx => .implicit
  | .txs => .implicit
  | .clc => .implicit
  | .cld => .implicit
  | .cli => .implicit
  | .clv => .implicit
  | .sec => .implicit
  | .sed => .implicit
  | .sei => .implicit
  | .nop => .implicit
  | .ldaIndexedIndirect b => .indexedIndirect b
  | .ldaZeroPage b => .zeroPage b
  | .ldaImmediate b => .immediate b
  | .ldaAbsolute w => .absolute w
  | .ldaIndirectIndexed b => .indirectIndexed b
  | .ldaZeroPageX b => .zeroPageX b
  | .ldaAbsoluteY w => .absoluteY w
  | .ldaAbsoluteX w => .absoluteX w
  | .ldxImmediate b => .immediate b
  | .ldxZeroPage b => .zeroPage b
  | .ldxAbsolute w => .absolute w
  | .ldxZeroPageY b => .zeroPageY b
  | .ldxAbsoluteY w => .absoluteY w
  | .ldyImmediate b => .immediate b
  | .ldyZeroPage b => .zeroPage b
  | .ldyAbsolute w => .absolute w
  | .ldyZeroPageX b => .zeroPageX b
  | .ldyAbsoluteX w => .absoluteX w
  | .staIndexedIndirect b => .indexedIndirect b
  | .staZeroPage b => .zeroPage b
  | .staAbsolute w => .absolute w
  | .staIndirectIndexed b => .indirectIndexed b
  | .staZeroPageX b => .zeroPageX b
  | .staAbsoluteY w => .absoluteY w
  | .staAbsoluteX w => .absoluteX w
  | .stxZeroPage b => .zeroPage b
  | .stxAbsolute w => .absolute w
  | .stxZeroPageY b => .zeroPageY b
  | .styZeroPage b => .zeroPage b
  | .styAbsolute w => .absolute w
  | .styZeroPageX b => .zeroPageX b

/-- The addressing mode of an instruction (R96). -/
def Instr.mode (i : Instr) : Mode := i.operand.mode

/-- An instruction is well formed when its operation and mode are a pairing of the table (R97). -/
def Instr.wellFormed (i : Instr) : Bool := Entry.wellFormed ⟨i.operation, i.mode⟩

end Sys2Proof
end

