-- ==== Sys2Proof/Decode.lean ====
section
/-! DEFINITION. instr_decoder: the opcode table (30_encoding.md R93, R96), the decoder over bytes, the base cycle counts
(R96 column cyc, 70_reset_and_hazards.md R322) and the encoder. The opcode values and the base counts but the branches' 2
are the spec's own (92_eei_decisions.md D14, D15); UNVERIFIED against the source, log entries 12 and 13. -/

namespace Sys2Proof

/-- `hi || lo` of 00_scope.md R8. -/
def word (hi lo : Byte) : Word := hi ++ lo

/-- Bits 15 to 8 of a word. -/
def hiByte (w : Word) : Byte := w.extractLsb' 8 8

/-- Bits 7 to 0 of a word. -/
def loByte (w : Word) : Byte := w.extractLsb' 0 8

/-- `zext_16` of 00_scope.md R9: the core zero-extends everywhere. -/
def zext (b : Byte) : Word := b.setWidth 16

/-- How many operand bytes follow the opcode, which the mode alone fixes (30_encoding.md R90, R92). -/
def Mode.operandBytes : Mode → Nat
  | .implicit | .accumulator => 0
  | .immediate | .zeroPage | .zeroPageX | .zeroPageY | .relative | .indexedIndirect | .indirectIndexed => 1
  | .absolute | .absoluteX | .absoluteY | .indirectAbsolute => 2

/-- The length in bytes: the mode alone fixes it (R90, R91). -/
def Instr.length (i : Instr) : Nat := 1 + i.mode.operandBytes

/-- How an instruction's operand bytes complete it, the three formats of 30_encoding.md R91. -/
inductive Form where
  | f1 (i : Instr)
  | f2 (mk : Byte → Instr)
  | f3 (mk : Word → Instr)

/-- Why bytes are not an instruction: an opcode with no table row (R98), or bytes that end before the operand does. -/
inductive DecodeError where
  | invalidOpcode (byte : Byte)
  | truncated
  deriving DecidableEq, Repr

/-- One populated slot of the table (R93): the opcode byte and what it selects. -/
structure Slot where
  opcode : Byte
  form   : Form

/-- Opcodes 0x00 to 0x0F of 30_encoding.md R96. -/
def opcodeRows0 : List Slot :=
  [⟨0x00, .f1 .brk⟩, ⟨0x01, .f2 .oraIndexedIndirect⟩, ⟨0x05, .f2 .oraZeroPage⟩,
   ⟨0x06, .f2 .aslZeroPage⟩, ⟨0x08, .f1 .php⟩, ⟨0x09, .f2 .oraImmediate⟩,
   ⟨0x0A, .f1 .aslAccumulator⟩, ⟨0x0D, .f3 .oraAbsolute⟩, ⟨0x0E, .f3 .aslAbsolute⟩]

/-- Opcodes 0x10 to 0x1F of 30_encoding.md R96. -/
def opcodeRows1 : List Slot :=
  [⟨0x10, .f2 .bpl⟩, ⟨0x11, .f2 .oraIndirectIndexed⟩, ⟨0x15, .f2 .oraZeroPageX⟩,
   ⟨0x16, .f2 .aslZeroPageX⟩, ⟨0x18, .f1 .clc⟩, ⟨0x19, .f3 .oraAbsoluteY⟩,
   ⟨0x1D, .f3 .oraAbsoluteX⟩, ⟨0x1E, .f3 .aslAbsoluteX⟩]

/-- Opcodes 0x20 to 0x2F of 30_encoding.md R96. -/
def opcodeRows2 : List Slot :=
  [⟨0x20, .f3 .jsr⟩, ⟨0x21, .f2 .andIndexedIndirect⟩, ⟨0x24, .f2 .bitZeroPage⟩,
   ⟨0x25, .f2 .andZeroPage⟩, ⟨0x26, .f2 .rolZeroPage⟩, ⟨0x28, .f1 .plp⟩,
   ⟨0x29, .f2 .andImmediate⟩, ⟨0x2A, .f1 .rolAccumulator⟩, ⟨0x2C, .f3 .bitAbsolute⟩,
   ⟨0x2D, .f3 .andAbsolute⟩, ⟨0x2E, .f3 .rolAbsolute⟩]

/-- Opcodes 0x30 to 0x3F of 30_encoding.md R96. -/
def opcodeRows3 : List Slot :=
  [⟨0x30, .f2 .bmi⟩, ⟨0x31, .f2 .andIndirectIndexed⟩, ⟨0x35, .f2 .andZeroPageX⟩,
   ⟨0x36, .f2 .rolZeroPageX⟩, ⟨0x38, .f1 .sec⟩, ⟨0x39, .f3 .andAbsoluteY⟩,
   ⟨0x3D, .f3 .andAbsoluteX⟩, ⟨0x3E, .f3 .rolAbsoluteX⟩]

/-- Opcodes 0x40 to 0x4F of 30_encoding.md R96. -/
def opcodeRows4 : List Slot :=
  [⟨0x40, .f1 .rti⟩, ⟨0x41, .f2 .eorIndexedIndirect⟩, ⟨0x45, .f2 .eorZeroPage⟩,
   ⟨0x46, .f2 .lsrZeroPage⟩, ⟨0x48, .f1 .pha⟩, ⟨0x49, .f2 .eorImmediate⟩,
   ⟨0x4A, .f1 .lsrAccumulator⟩, ⟨0x4C, .f3 .jmpAbsolute⟩, ⟨0x4D, .f3 .eorAbsolute⟩,
   ⟨0x4E, .f3 .lsrAbsolute⟩]

/-- Opcodes 0x50 to 0x5F of 30_encoding.md R96. -/
def opcodeRows5 : List Slot :=
  [⟨0x50, .f2 .bvc⟩, ⟨0x51, .f2 .eorIndirectIndexed⟩, ⟨0x55, .f2 .eorZeroPageX⟩,
   ⟨0x56, .f2 .lsrZeroPageX⟩, ⟨0x58, .f1 .cli⟩, ⟨0x59, .f3 .eorAbsoluteY⟩,
   ⟨0x5D, .f3 .eorAbsoluteX⟩, ⟨0x5E, .f3 .lsrAbsoluteX⟩]

/-- Opcodes 0x60 to 0x6F of 30_encoding.md R96. -/
def opcodeRows6 : List Slot :=
  [⟨0x60, .f1 .rts⟩, ⟨0x61, .f2 .adcIndexedIndirect⟩, ⟨0x65, .f2 .adcZeroPage⟩,
   ⟨0x66, .f2 .rorZeroPage⟩, ⟨0x68, .f1 .pla⟩, ⟨0x69, .f2 .adcImmediate⟩,
   ⟨0x6A, .f1 .rorAccumulator⟩, ⟨0x6C, .f3 .jmpIndirectAbsolute⟩, ⟨0x6D, .f3 .adcAbsolute⟩,
   ⟨0x6E, .f3 .rorAbsolute⟩]

/-- Opcodes 0x70 to 0x7F of 30_encoding.md R96. -/
def opcodeRows7 : List Slot :=
  [⟨0x70, .f2 .bvs⟩, ⟨0x71, .f2 .adcIndirectIndexed⟩, ⟨0x75, .f2 .adcZeroPageX⟩,
   ⟨0x76, .f2 .rorZeroPageX⟩, ⟨0x78, .f1 .sei⟩, ⟨0x79, .f3 .adcAbsoluteY⟩,
   ⟨0x7D, .f3 .adcAbsoluteX⟩, ⟨0x7E, .f3 .rorAbsoluteX⟩]

/-- Opcodes 0x80 to 0x8F of 30_encoding.md R96. -/
def opcodeRows8 : List Slot :=
  [⟨0x81, .f2 .staIndexedIndirect⟩, ⟨0x84, .f2 .styZeroPage⟩, ⟨0x85, .f2 .staZeroPage⟩,
   ⟨0x86, .f2 .stxZeroPage⟩, ⟨0x88, .f1 .dey⟩, ⟨0x8A, .f1 .txa⟩,
   ⟨0x8C, .f3 .styAbsolute⟩, ⟨0x8D, .f3 .staAbsolute⟩, ⟨0x8E, .f3 .stxAbsolute⟩]

/-- Opcodes 0x90 to 0x9F of 30_encoding.md R96. -/
def opcodeRows9 : List Slot :=
  [⟨0x90, .f2 .bcc⟩, ⟨0x91, .f2 .staIndirectIndexed⟩, ⟨0x94, .f2 .styZeroPageX⟩,
   ⟨0x95, .f2 .staZeroPageX⟩, ⟨0x96, .f2 .stxZeroPageY⟩, ⟨0x98, .f1 .tya⟩,
   ⟨0x99, .f3 .staAbsoluteY⟩, ⟨0x9A, .f1 .txs⟩, ⟨0x9D, .f3 .staAbsoluteX⟩]

/-- Opcodes 0xA0 to 0xAF of 30_encoding.md R96. -/
def opcodeRowsA : List Slot :=
  [⟨0xA0, .f2 .ldyImmediate⟩, ⟨0xA1, .f2 .ldaIndexedIndirect⟩, ⟨0xA2, .f2 .ldxImmediate⟩,
   ⟨0xA4, .f2 .ldyZeroPage⟩, ⟨0xA5, .f2 .ldaZeroPage⟩, ⟨0xA6, .f2 .ldxZeroPage⟩,
   ⟨0xA8, .f1 .tay⟩, ⟨0xA9, .f2 .ldaImmediate⟩, ⟨0xAA, .f1 .tax⟩,
   ⟨0xAC, .f3 .ldyAbsolute⟩, ⟨0xAD, .f3 .ldaAbsolute⟩, ⟨0xAE, .f3 .ldxAbsolute⟩]

/-- Opcodes 0xB0 to 0xBF of 30_encoding.md R96. -/
def opcodeRowsB : List Slot :=
  [⟨0xB0, .f2 .bcs⟩, ⟨0xB1, .f2 .ldaIndirectIndexed⟩, ⟨0xB4, .f2 .ldyZeroPageX⟩,
   ⟨0xB5, .f2 .ldaZeroPageX⟩, ⟨0xB6, .f2 .ldxZeroPageY⟩, ⟨0xB8, .f1 .clv⟩,
   ⟨0xB9, .f3 .ldaAbsoluteY⟩, ⟨0xBA, .f1 .tsx⟩, ⟨0xBC, .f3 .ldyAbsoluteX⟩,
   ⟨0xBD, .f3 .ldaAbsoluteX⟩, ⟨0xBE, .f3 .ldxAbsoluteY⟩]

/-- Opcodes 0xC0 to 0xCF of 30_encoding.md R96. -/
def opcodeRowsC : List Slot :=
  [⟨0xC0, .f2 .cpyImmediate⟩, ⟨0xC1, .f2 .cmpIndexedIndirect⟩, ⟨0xC4, .f2 .cpyZeroPage⟩,
   ⟨0xC5, .f2 .cmpZeroPage⟩, ⟨0xC6, .f2 .decZeroPage⟩, ⟨0xC8, .f1 .iny⟩,
   ⟨0xC9, .f2 .cmpImmediate⟩, ⟨0xCA, .f1 .dex⟩, ⟨0xCC, .f3 .cpyAbsolute⟩,
   ⟨0xCD, .f3 .cmpAbsolute⟩, ⟨0xCE, .f3 .decAbsolute⟩]

/-- Opcodes 0xD0 to 0xDF of 30_encoding.md R96. -/
def opcodeRowsD : List Slot :=
  [⟨0xD0, .f2 .bne⟩, ⟨0xD1, .f2 .cmpIndirectIndexed⟩, ⟨0xD5, .f2 .cmpZeroPageX⟩,
   ⟨0xD6, .f2 .decZeroPageX⟩, ⟨0xD8, .f1 .cld⟩, ⟨0xD9, .f3 .cmpAbsoluteY⟩,
   ⟨0xDD, .f3 .cmpAbsoluteX⟩, ⟨0xDE, .f3 .decAbsoluteX⟩]

/-- Opcodes 0xE0 to 0xEF of 30_encoding.md R96. -/
def opcodeRowsE : List Slot :=
  [⟨0xE0, .f2 .cpxImmediate⟩, ⟨0xE1, .f2 .sbcIndexedIndirect⟩, ⟨0xE4, .f2 .cpxZeroPage⟩,
   ⟨0xE5, .f2 .sbcZeroPage⟩, ⟨0xE6, .f2 .incZeroPage⟩, ⟨0xE8, .f1 .inx⟩,
   ⟨0xE9, .f2 .sbcImmediate⟩, ⟨0xEA, .f1 .nop⟩, ⟨0xEC, .f3 .cpxAbsolute⟩,
   ⟨0xED, .f3 .sbcAbsolute⟩, ⟨0xEE, .f3 .incAbsolute⟩]

/-- Opcodes 0xF0 to 0xFF of 30_encoding.md R96. -/
def opcodeRowsF : List Slot :=
  [⟨0xF0, .f2 .beq⟩, ⟨0xF1, .f2 .sbcIndirectIndexed⟩, ⟨0xF5, .f2 .sbcZeroPageX⟩,
   ⟨0xF6, .f2 .incZeroPageX⟩, ⟨0xF8, .f1 .sed⟩, ⟨0xF9, .f3 .sbcAbsoluteY⟩,
   ⟨0xFD, .f3 .sbcAbsoluteX⟩, ⟨0xFE, .f3 .incAbsoluteX⟩]

/-- The opcode table, 151 populated slots (R96). -/
def opcodeTable : List Slot :=
  opcodeRows0 ++ opcodeRows1 ++ opcodeRows2 ++ opcodeRows3 ++ opcodeRows4 ++ opcodeRows5 ++ opcodeRows6 ++ opcodeRows7 ++
  opcodeRows8 ++ opcodeRows9 ++ opcodeRowsA ++ opcodeRowsB ++ opcodeRowsC ++ opcodeRowsD ++ opcodeRowsE ++ opcodeRowsF

/-- The first slot of a list for an opcode byte; none for an unpopulated one (R93). -/
def findSlot (op : Byte) : List Slot → Option Form
  | [] => none
  | r :: rest => if r.opcode = op then some r.form else findSlot op rest

/-- `OPCODE_TABLE[opcode]` of 30_encoding.md R100: a lookup of the whole byte (R91). -/
def lookup (op : Byte) : Option Form := findSlot op opcodeTable

/-- The instruction a form makes of the two bytes that follow the opcode; a form takes as many as it needs,
the low byte first (R92). -/
def Form.build (lo hi : Byte) : Form → Instr
  | .f1 i => i
  | .f2 mk => mk lo
  | .f3 mk => mk (word hi lo)

/-- The instruction that three bytes in ascending address order hold, none where the first is an invalid opcode (R98). -/
def decodeBytes (op lo hi : Byte) : Option Instr := (lookup op).map (Form.build lo hi)

/-- The decoder over any bytes: the instruction and the bytes after it, or why there is none. -/
def decode : List Byte → Except DecodeError (Instr × List Byte)
  | [] => .error .truncated
  | op :: rest =>
    match lookup op with
    | none => .error (.invalidOpcode op)
    | some (.f1 i) => .ok (i, rest)
    | some (.f2 mk) =>
      match rest with
      | b :: more => .ok (mk b, more)
      | [] => .error .truncated
    | some (.f3 mk) =>
      match rest with
      | lo :: hi :: more => .ok (mk (word hi lo), more)
      | _ => .error .truncated

/-- The instruction whose bits are `w`, bit 0 the least significant of the opcode byte, the bits above `nbits` zero:
the bytes are laid out in ascending address order and given to the decoder (R90, R91). -/
def decodeTableWord (nbits w : Nat) : Option Instr :=
  let v := w % 2 ^ nbits
  decodeBytes (BitVec.ofNat 8 v) (BitVec.ofNat 8 (v / 256)) (BitVec.ofNat 8 (v / 65536))

/-- Base cycle counts, 30_encoding.md R96 column cyc, grouped as 70_reset_and_hazards.md R322 groups them. -/
def baseCycles : Instr → Nat
  | .adcImmediate _ | .sbcImmediate _ | .andImmediate _ | .oraImmediate _ | .eorImmediate _ | .aslAccumulator
  | .lsrAccumulator | .rolAccumulator | .rorAccumulator | .cmpImmediate _ | .cpxImmediate _ | .cpyImmediate _ | .inx
  | .iny | .dex | .dey | .bcc _ | .bcs _ | .beq _ | .bmi _ | .bne _ | .bpl _ | .bvc _ | .bvs _ | .tax | .tay | .txa
  | .tya | .tsx | .txs | .clc | .cld | .cli | .clv | .sec | .sed | .sei | .nop | .ldaImmediate _ | .ldxImmediate _
  | .ldyImmediate _ => 2
  | .adcZeroPage _ | .sbcZeroPage _ | .andZeroPage _ | .oraZeroPage _ | .eorZeroPage _ | .bitZeroPage _
  | .cmpZeroPage _ | .cpxZeroPage _ | .cpyZeroPage _ | .jmpAbsolute _ | .pha | .php | .ldaZeroPage _ | .ldxZeroPage _
  | .ldyZeroPage _ | .staZeroPage _ | .stxZeroPage _ | .styZeroPage _ => 3
  | .adcAbsolute _ | .adcZeroPageX _ | .adcAbsoluteY _ | .adcAbsoluteX _ | .sbcAbsolute _ | .sbcZeroPageX _
  | .sbcAbsoluteY _ | .sbcAbsoluteX _ | .andAbsolute _ | .andZeroPageX _ | .andAbsoluteY _ | .andAbsoluteX _
  | .oraAbsolute _ | .oraZeroPageX _ | .oraAbsoluteY _ | .oraAbsoluteX _ | .eorAbsolute _ | .eorZeroPageX _
  | .eorAbsoluteY _ | .eorAbsoluteX _ | .bitAbsolute _ | .cmpAbsolute _ | .cmpZeroPageX _ | .cmpAbsoluteY _
  | .cmpAbsoluteX _ | .cpxAbsolute _ | .cpyAbsolute _ | .pla | .plp | .ldaAbsolute _ | .ldaZeroPageX _
  | .ldaAbsoluteY _ | .ldaAbsoluteX _ | .ldxAbsolute _ | .ldxZeroPageY _ | .ldxAbsoluteY _ | .ldyAbsolute _
  | .ldyZeroPageX _ | .ldyAbsoluteX _ | .staAbsolute _ | .staZeroPageX _ | .stxAbsolute _ | .stxZeroPageY _
  | .styAbsolute _ | .styZeroPageX _ => 4
  | .adcIndirectIndexed _ | .sbcIndirectIndexed _ | .andIndirectIndexed _ | .oraIndirectIndexed _
  | .eorIndirectIndexed _ | .aslZeroPage _ | .lsrZeroPage _ | .rolZeroPage _ | .rorZeroPage _ | .cmpIndirectIndexed _
  | .incZeroPage _ | .decZeroPage _ | .jmpIndirectAbsolute _ | .ldaIndirectIndexed _ | .staAbsoluteY _
  | .staAbsoluteX _ => 5
  | .adcIndexedIndirect _ | .sbcIndexedIndirect _ | .andIndexedIndirect _ | .oraIndexedIndirect _
  | .eorIndexedIndirect _ | .aslAbsolute _ | .aslZeroPageX _ | .lsrAbsolute _ | .lsrZeroPageX _ | .rolAbsolute _
  | .rolZeroPageX _ | .rorAbsolute _ | .rorZeroPageX _ | .cmpIndexedIndirect _ | .incAbsolute _ | .incZeroPageX _
  | .decAbsolute _ | .decZeroPageX _ | .jsr _ | .rts | .rti | .ldaIndexedIndirect _ | .staIndexedIndirect _
  | .staIndirectIndexed _ => 6
  | .aslAbsoluteX _ | .lsrAbsoluteX _ | .rolAbsoluteX _ | .rorAbsoluteX _ | .incAbsoluteX _ | .decAbsoluteX _ | .brk => 7

/-- The opcode byte of an instruction (R96). -/
def Instr.opcode : Instr → Byte
  | .adcIndexedIndirect _ => 0x61
  | .adcZeroPage _ => 0x65
  | .adcImmediate _ => 0x69
  | .adcAbsolute _ => 0x6D
  | .adcIndirectIndexed _ => 0x71
  | .adcZeroPageX _ => 0x75
  | .adcAbsoluteY _ => 0x79
  | .adcAbsoluteX _ => 0x7D
  | .sbcIndexedIndirect _ => 0xE1
  | .sbcZeroPage _ => 0xE5
  | .sbcImmediate _ => 0xE9
  | .sbcAbsolute _ => 0xED
  | .sbcIndirectIndexed _ => 0xF1
  | .sbcZeroPageX _ => 0xF5
  | .sbcAbsoluteY _ => 0xF9
  | .sbcAbsoluteX _ => 0xFD
  | .andIndexedIndirect _ => 0x21
  | .andZeroPage _ => 0x25
  | .andImmediate _ => 0x29
  | .andAbsolute _ => 0x2D
  | .andIndirectIndexed _ => 0x31
  | .andZeroPageX _ => 0x35
  | .andAbsoluteY _ => 0x39
  | .andAbsoluteX _ => 0x3D
  | .oraIndexedIndirect _ => 0x01
  | .oraZeroPage _ => 0x05
  | .oraImmediate _ => 0x09
  | .oraAbsolute _ => 0x0D
  | .oraIndirectIndexed _ => 0x11
  | .oraZeroPageX _ => 0x15
  | .oraAbsoluteY _ => 0x19
  | .oraAbsoluteX _ => 0x1D
  | .eorIndexedIndirect _ => 0x41
  | .eorZeroPage _ => 0x45
  | .eorImmediate _ => 0x49
  | .eorAbsolute _ => 0x4D
  | .eorIndirectIndexed _ => 0x51
  | .eorZeroPageX _ => 0x55
  | .eorAbsoluteY _ => 0x59
  | .eorAbsoluteX _ => 0x5D
  | .bitZeroPage _ => 0x24
  | .bitAbsolute _ => 0x2C
  | .aslZeroPage _ => 0x06
  | .aslAccumulator => 0x0A
  | .aslAbsolute _ => 0x0E
  | .aslZeroPageX _ => 0x16
  | .aslAbsoluteX _ => 0x1E
  | .lsrZeroPage _ => 0x46
  | .lsrAccumulator => 0x4A
  | .lsrAbsolute _ => 0x4E
  | .lsrZeroPageX _ => 0x56
  | .lsrAbsoluteX _ => 0x5E
  | .rolZeroPage _ => 0x26
  | .rolAccumulator => 0x2A
  | .rolAbsolute _ => 0x2E
  | .rolZeroPageX _ => 0x36
  | .rolAbsoluteX _ => 0x3E
  | .rorZeroPage _ => 0x66
  | .rorAccumulator => 0x6A
  | .rorAbsolute _ => 0x6E
  | .rorZeroPageX _ => 0x76
  | .rorAbsoluteX _ => 0x7E
  | .cmpIndexedIndirect _ => 0xC1
  | .cmpZeroPage _ => 0xC5
  | .cmpImmediate _ => 0xC9
  | .cmpAbsolute _ => 0xCD
  | .cmpIndirectIndexed _ => 0xD1
  | .cmpZeroPageX _ => 0xD5
  | .cmpAbsoluteY _ => 0xD9
  | .cmpAbsoluteX _ => 0xDD
  | .cpxImmediate _ => 0xE0
  | .cpxZeroPage _ => 0xE4
  | .cpxAbsolute _ => 0xEC
  | .cpyImmediate _ => 0xC0
  | .cpyZeroPage _ => 0xC4
  | .cpyAbsolute _ => 0xCC
  | .incZeroPage _ => 0xE6
  | .incAbsolute _ => 0xEE
  | .incZeroPageX _ => 0xF6
  | .incAbsoluteX _ => 0xFE
  | .decZeroPage _ => 0xC6
  | .decAbsolute _ => 0xCE
  | .decZeroPageX _ => 0xD6
  | .decAbsoluteX _ => 0xDE
  | .inx => 0xE8
  | .iny => 0xC8
  | .dex => 0xCA
  | .dey => 0x88
  | .bcc _ => 0x90
  | .bcs _ => 0xB0
  | .beq _ => 0xF0
  | .bmi _ => 0x30
  | .bne _ => 0xD0
  | .bpl _ => 0x10
  | .bvc _ => 0x50
  | .bvs _ => 0x70
  | .jmpAbsolute _ => 0x4C
  | .jmpIndirectAbsolute _ => 0x6C
  | .jsr _ => 0x20
  | .rts => 0x60
  | .brk => 0x00
  | .rti => 0x40
  | .pha => 0x48
  | .php => 0x08
  | .pla => 0x68
  | .plp => 0x28
  | .tax => 0xAA
  | .tay => 0xA8
  | .txa => 0x8A
  | .tya => 0x98
  | .tsx => 0xBA
  | .txs => 0x9A
  | .clc => 0x18
  | .cld => 0xD8
  | .cli => 0x58
  | .clv => 0xB8
  | .sec => 0x38
  | .sed => 0xF8
  | .sei => 0x78
  | .nop => 0xEA
  | .ldaIndexedIndirect _ => 0xA1
  | .ldaZeroPage _ => 0xA5
  | .ldaImmediate _ => 0xA9
  | .ldaAbsolute _ => 0xAD
  | .ldaIndirectIndexed _ => 0xB1
  | .ldaZeroPageX _ => 0xB5
  | .ldaAbsoluteY _ => 0xB9
  | .ldaAbsoluteX _ => 0xBD
  | .ldxImmediate _ => 0xA2
  | .ldxZeroPage _ => 0xA6
  | .ldxAbsolute _ => 0xAE
  | .ldxZeroPageY _ => 0xB6
  | .ldxAbsoluteY _ => 0xBE
  | .ldyImmediate _ => 0xA0
  | .ldyZeroPage _ => 0xA4
  | .ldyAbsolute _ => 0xAC
  | .ldyZeroPageX _ => 0xB4
  | .ldyAbsoluteX _ => 0xBC
  | .staIndexedIndirect _ => 0x81
  | .staZeroPage _ => 0x85
  | .staAbsolute _ => 0x8D
  | .staIndirectIndexed _ => 0x91
  | .staZeroPageX _ => 0x95
  | .staAbsoluteY _ => 0x99
  | .staAbsoluteX _ => 0x9D
  | .stxZeroPage _ => 0x86
  | .stxAbsolute _ => 0x8E
  | .stxZeroPageY _ => 0x96
  | .styZeroPage _ => 0x84
  | .styAbsolute _ => 0x8C
  | .styZeroPageX _ => 0x94

/-- The operand bytes of an instruction in ascending address order, a 16-bit operand low byte first (R64, R91). -/
def Operand.bytes : Operand → List Byte
  | .implicit | .accumulator => []
  | .immediate b | .zeroPage b | .zeroPageX b | .zeroPageY b | .relative b | .indexedIndirect b | .indirectIndexed b => [b]
  | .absolute w | .absoluteX w | .absoluteY w | .indirectAbsolute w => [loByte w, hiByte w]

/-- The bytes of an instruction in ascending address order (R90, R91). -/
def encode (i : Instr) : List Byte := i.opcode :: i.operand.bytes

end Sys2Proof
end

