-- ==== Sys2Proof/Machine/Params.lean ====
section
/-! DEFINITION. The parameters of 00_scope.md R4, each at the default 92_eei_decisions.md gives it. Every value here is the
spec's own decision, UNVERIFIED against its source. `OPCODE_TABLE` and `BASE_CYCLES` are `opcodeTable` and `baseCycles` in
Decode.lean. -/

namespace Sys2Proof.Machine

/-- PC_WRAP, decision D3: PC and what is added to it wrap modulo 65536, 10_state.md R25; with `false` a PC that would leave 0 to 65535
raises InvalidAddress (60_exceptions.md R284, decision D27; log entry 5). -/
def pcWrap : Bool := true

/-- ADDR_WRAP, decision D4: an absolute-X or absolute-Y sum wraps modulo 65536, 40_addressing_modes.md R129, R130; with `false` a sum past
0xFFFF raises InvalidAddress where the byte there is accessed (R284, decision D27; log entry 5). -/
def addrWrap : Bool := true

/-- REL_DECODE, decision D7: the displacement formula as 40_addressing_modes.md R131 writes it (log entry 6). -/
def relDecode : RelDecode := .asWritten

/-- BRK_PC_EXTRA, decision D8: BRK adds one to PC after the opcode fetch, 47_control_flow.md R219 (log entry 8). -/
def brkPcExtra : Nat := 1

/-- ZP_PTR_WRAP, decision D5: a zero-page pointer's second byte wraps in page 0, R132, R133 (log entry 9). -/
def zpPtrWrap : Bool := true

/-- JMP_IND_PAGE_WRAP, decision D6: an indirect-absolute pointer's second byte does not wrap in its page, R134 (log entry 10). -/
def jmpIndPageWrap : Bool := false

/-- INDY_PAGE_PENALTY, decision D16: no page-cross cycle in indirect-indexed mode, R133, R325 (log entry 14).
Which operations `true` charges is the model's own, DESIGN CHOICE (log entry 29). -/
def indyPagePenalty : Bool := false

/-- POWERUP_CLEARED_VALUE, decision D19: the value of the sixteen "cleared" cells, R311 (log entry 4). -/
def powerupClearedValue : Byte := 0x00

/-- SHIFT_ZN_ON_MASKED, decision D12: shifts check Z and N on the masked result, 43_shift_rotate.md R174 (log entry 11). -/
def shiftZnOnMasked : Bool := true

/-- ENTRY_PC, decision D20: where the host enters a loaded program, 70_reset_and_hazards.md R313 (log entry 23). -/
def entryPc : Word := 0x0600

end Sys2Proof.Machine
end

