-- ==== Sys2Proof/Machine/Memory.lean ====
section
/-! DEFINITION. The platform's memory (20_memory.md R60, R61): a flat array of 65536 byte cells, held as the list of the
cells that differ from what Reset leaves (70_reset_and_hazards.md R311), in one canonical form. -/

namespace Sys2Proof.Machine

/-- The cells that differ from the power-up pattern, addresses strictly rising. -/
abbrev Memory := List Host.Cell

/-- The size of the address space, 20_memory.md R60. -/
def memorySize : Nat := 65536

/-- The byte Reset leaves at an address, 70_reset_and_hazards.md R311, and so what an unlisted address reads as. -/
def powerUpByte (a : Nat) : Byte :=
  if 0x2000 ≤ a then 0x00
  else if a % 0x800 = 0x008 ∨ a % 0x800 = 0x009 ∨ a % 0x800 = 0x00A ∨ a % 0x800 = 0x00F then powerupClearedValue
  else 0xFF

/-- The byte at an address (R60); a read changes nothing. -/
def Memory.read (m : Memory) (a : Nat) : Byte :=
  match m with
  | [] => powerUpByte a
  | (k, v) :: rest => if k = a then v else Memory.read rest a

/-- The memory with the entry of an address left out, so that it reads as after Reset. -/
def Memory.remove (m : Memory) (a : Nat) : Memory :=
  match m with
  | [] => []
  | (k, v) :: rest => if k = a then Memory.remove rest a else (k, v) :: Memory.remove rest a

/-- An entry put before the first entry of a higher address. -/
def Memory.insert (m : Memory) (a : Nat) (v : Byte) : Memory :=
  match m with
  | [] => [(a, v)]
  | (k, u) :: rest => if a < k then (a, v) :: (k, u) :: rest else (k, u) :: Memory.insert rest a v

/-- A store replaces the cell (R61); a byte equal to the power-up byte leaves no entry. -/
def Memory.write (m : Memory) (a : Nat) (v : Byte) : Memory :=
  if v = powerUpByte a then Memory.remove m a else Memory.insert (Memory.remove m a) a v

/-- The canonical form: addresses strictly rising and inside the address space, no entry equal to the power-up byte. -/
abbrev Memory.wf (m : Memory) : Prop :=
  m.Pairwise (fun p q => p.1 < q.1) ∧ ∀ p ∈ m, p.1 < memorySize ∧ p.2 ≠ powerUpByte p.1

end Sys2Proof.Machine
end

