-- ==== Sys2Proof/Machine/State.lean ====
section
/-! DEFINITION. The machine's state as plain data (10_state.md; INVENTORY.md lists it), its state after Reset, and the reasons a
step can stop (60_exceptions.md R280 to R286). P is not stored: it is a view of the seven flags (10_state.md R20, R33). -/

namespace Sys2Proof.Machine

/-- Everything the spec gives the machine: 10_state.md R20 to R24 (registers), R30 (flags), R45 (memory), R46 (the per-step
counters), and two fields of the model's own: `cycles`, the `Done(cycles)` of the last completed step (00_scope.md R5; log entry 2), and
`wasReset`, whether a `Reset` has been delivered yet: until then no register holds a value (70_reset_and_hazards.md R313 step 1;
log entry 24). -/
structure State where
  a : Byte
  x : Byte
  y : Byte
  sp : Byte
  pc : Word
  flagC : Bool
  flagZ : Bool
  flagI : Bool
  flagD : Bool
  flagB : Bool
  flagV : Bool
  flagN : Bool
  mem : Memory
  memCycles : Nat
  extraCycles : Nat
  cycles : Nat
  wasReset : Bool
  deriving DecidableEq, Repr

/-- The machine right after `Reset`, 10_state.md R50 and 70_reset_and_hazards.md R310, R311 (nothing is listed in memory, so every
cell reads as the power-up pattern). The three counters' 0 is a DESIGN CHOICE (log entries 2 and 3). -/
def State.reset : State where
  a := 0x00
  x := 0x00
  y := 0x00
  sp := 0xFF
  pc := 0x07FF
  flagC := false
  flagZ := true
  flagI := true
  flagD := false
  flagB := true
  flagV := false
  flagN := false
  mem := []
  memCycles := 0
  extraCycles := 0
  cycles := 0
  wasReset := true

/-- The fault kinds of 60_exceptions.md. Each is safe: the hardware stops the run there too (R280, R286). `stopped` is the state the
core is left in, which the rules describe and `Host.Outcome.fault` has no other place for (log entry 1). -/
inductive Fault where
  /-- R281: raised by `step` when the opcode byte has no table entry. Safe. -/
  | invalidOpcode (byte : Byte) (stopped : State)
  /-- R282: raised by the resolver when called with mode implicit; no instruction reaches it. Safe. -/
  | implicitModeRead (stopped : State)
  /-- R283: raised where an operation asks an operand for a value or an address its mode does not have; no instruction
  reaches it. Safe. -/
  | unsupportedAddressingMode (stopped : State)
  /-- R62, R284: raised by the memory interface for an address outside 0 to 65535. Only the host can present one; a step can where
  PC_WRAP or ADDR_WRAP is false (decision D27). Safe. -/
  | invalidAddress (address : Int) (stopped : State)
  deriving DecidableEq, Repr

/-- No meaning for an instruction or for a step. -/
inductive Refusal where
  /-- Raised by `exec` alone, for an instruction that has no meaning yet; no arm raises it. Safe. -/
  | notModelled (mnemonic : String)
  /-- Raised by `step` alone, through the fetch: a step before the first `Reset`, where no register holds a value
  (70_reset_and_hazards.md R313 step 1, 93_implementation_defined.md U8). Safe. -/
  | beforeReset
  deriving DecidableEq, Repr

end Sys2Proof.Machine
end

