-- ==== Sys2Proof/Machine/Flags.lean ====
section
/-! DEFINITION. flag_alu: the flag primitives, the check primitives and the packed status byte (10_state.md R30 to R39). Checks
take the untruncated integer the spec names (00_scope.md R8). -/

namespace Sys2Proof.Machine

/-- The seven flag booleans, 10_state.md R30. -/
inductive Flag where
  | c | z | i | d | b | v | n
  deriving DecidableEq, Repr

/-- The bit of P that holds a flag, 10_state.md R31, R32. -/
def Flag.bit : Flag → Nat
  | .c => 0
  | .z => 1
  | .i => 2
  | .d => 3
  | .b => 4
  | .v => 6
  | .n => 7

/-- A flag's value. -/
def State.flag (s : State) : Flag → Bool
  | .c => s.flagC
  | .z => s.flagZ
  | .i => s.flagI
  | .d => s.flagD
  | .b => s.flagB
  | .v => s.flagV
  | .n => s.flagN

/-- A flag written, no other flag changed (R35). -/
def writeFlag (f : Flag) (v : Bool) (s : State) : State :=
  match f with
  | .c => { s with flagC := v }
  | .z => { s with flagZ := v }
  | .i => { s with flagI := v }
  | .d => { s with flagD := v }
  | .b => { s with flagB := v }
  | .v => { s with flagV := v }
  | .n => { s with flagN := v }

/-- `setF`, 10_state.md R35. -/
def setFlag (f : Flag) (s : State) : State := writeFlag f true s

/-- `clearF`, 10_state.md R35. -/
def clearFlag (f : Flag) (s : State) : State := writeFlag f false s

/-- `bit7(v)` of a possibly negative integer, 00_scope.md R8. -/
def bit7 (v : Int) : Bool := (BitVec.ofInt 8 v).msb

/-- `checkCarry`, 10_state.md R36. -/
def checkCarry (value : Int) (s : State) : State := { s with flagC := decide (value > 0xFF) }

/-- `checkZero`, 10_state.md R37. -/
def checkZero (value : Int) (s : State) : State := { s with flagZ := decide (value = 0) }

/-- `checkNegative`, 10_state.md R37. -/
def checkNegative (value : Int) (s : State) : State := { s with flagN := bit7 value }

/-- `SetZN(v)`: both checks on the same value, 10_state.md R37. -/
def setZN (value : Int) (s : State) : State := checkNegative value (checkZero value s)

/-- `SetZN` of a byte already masked, 10_state.md R37. -/
def setZNByte (v : Byte) (s : State) : State := setZN v.toNat s

/-- A written, then the zero/negative check, 10_state.md R21. -/
def writeA (v : Byte) (s : State) : State := setZNByte v { s with a := v }

/-- X written, then the zero/negative check, 10_state.md R22. -/
def writeX (v : Byte) (s : State) : State := setZNByte v { s with x := v }

/-- Y written, then the zero/negative check, 10_state.md R22. -/
def writeY (v : Byte) (s : State) : State := setZNByte v { s with y := v }

/-- `checkOverflowAdd(a, m, r)`, 10_state.md R38; "sign" is bit 7 (decision D23, log entry 15). -/
def checkOverflowAdd (a m r : Int) (s : State) : State :=
  { s with flagV := (bit7 a == bit7 m) && (bit7 r != bit7 a) }

/-- `checkOverflowSub(a, m, r)`, 10_state.md R39; "sign" is bit 7 (decision D23, log entry 15). -/
def checkOverflowSub (a m r : Int) (s : State) : State :=
  { s with flagV := (bit7 a != bit7 m) && (bit7 r != bit7 a) }

/-- A flag as the integer 0 or 1 of the pseudocode. -/
def flagBit (f : Bool) : Int := if f then 1 else 0

/-- The packed status byte, `N V 1 B D I Z C` from bit 7 down, 10_state.md R32, R33. -/
def packP (s : State) : Byte :=
  BitVec.ofBool s.flagN ++ BitVec.ofBool s.flagV ++ BitVec.ofBool true ++ BitVec.ofBool s.flagB ++
    BitVec.ofBool s.flagD ++ BitVec.ofBool s.flagI ++ BitVec.ofBool s.flagZ ++ BitVec.ofBool s.flagC

/-- `P <- v`: every flag from its bit, bit 5 ignored, 10_state.md R34 (decision D11, log entry 16). -/
def unpackP (v : Byte) (s : State) : State :=
  { s with
    flagC := v.getLsbD 0
    flagZ := v.getLsbD 1
    flagI := v.getLsbD 2
    flagD := v.getLsbD 3
    flagB := v.getLsbD 4
    flagV := v.getLsbD 6
    flagN := v.getLsbD 7 }

end Sys2Proof.Machine
end

