-- ==== Sys2Proof/Machine/Ops.lean ====
section
/-! DEFINITION. The named operations over memory, registers and the stack (20_memory.md; 10_state.md R24, R25, R40 to R43),
what every step does around an operation (30_encoding.md R100), the BRK trap and its return (60_exceptions.md R292, R293),
the fetch of an instruction's bytes, and what the host may do between steps (00_scope.md R7). -/

namespace Sys2Proof.Machine

/-- `MemRead(addr, 1)`, 20_memory.md R60. -/
def readByte (s : State) (addr : Word) : Byte := s.mem.read addr.toNat

/-- `MemWrite(addr, 1, v)`, 20_memory.md R61. -/
def writeByte (addr : Word) (v : Byte) (s : State) : State := { s with mem := s.mem.write addr.toNat v }

/-- PC advanced by `n` bytes modulo 65536, 10_state.md R25 (decision D3, log entry 5). -/
def advancePc (n : Nat) (s : State) : State := { s with pc := s.pc + BitVec.ofNat 16 n }

/-- PC advanced past `n` bytes. Where `wrap` (PC_WRAP) is false, the increment that would pass 0xFFFF raises InvalidAddress with PC
still at 0xFFFF (decisions D3, D27; log entry 5). -/
def advance (wrap : Bool) (n : Nat) (s : State) : Except Fault State :=
  if !wrap && decide (memorySize ≤ s.pc.toNat + n) then .error (.invalidAddress memorySize { s with pc := 0xFFFF })
  else .ok (advancePc n s)

/-! ### The stack -/

/-- The stack address `0x0100 + S`, 10_state.md R23, R40. -/
def stackAddr (sp : Byte) : Word := 0x0100 + zext sp

/-- `Push(v)`: store, then decrement within the page, 10_state.md R41. -/
def push (v : Byte) (s : State) : State :=
  let t := writeByte (stackAddr s.sp) v s
  { t with sp := s.sp - 1 }

/-- `Pop()`: increment within the page, then load, 10_state.md R42. -/
def pop (s : State) : Byte × State :=
  let t := { s with sp := s.sp + 1 }
  (readByte t (stackAddr t.sp), t)

/-- `Peek()`: the slot just above, nothing changed, 10_state.md R43. No instruction calls it. -/
def peek (s : State) : Byte := readByte s (stackAddr (s.sp + 1))

/-- PC pushed high byte first, 20_memory.md R64, 47_control_flow.md R216, R219. -/
def pushPc (s : State) : State := push (loByte s.pc) (push (hiByte s.pc) s)

/-- PC popped low byte first, nothing added, 47_control_flow.md R217, R220. -/
def popPc (s : State) : State :=
  let (lo, s1) := pop s
  let (hi, s2) := pop s1
  { s2 with pc := word hi lo }

/-! ### The trap -/

/-- The BRK vector's low byte, 47_control_flow.md R218 (decision D9, log entry 17). -/
def brkVectorLo : Word := 0xFFFE

/-- The BRK vector's high byte, 47_control_flow.md R218 (decision D9, log entry 17). -/
def brkVectorHi : Word := 0xFFFF

/-- Trap entry, 60_exceptions.md R292 and 47_control_flow.md R219: PC and P saved on the stack, P with B as it was, then B set,
I and every other flag left alone (decision D10, log entry 18), and PC from the vector. -/
def takeTrap (s : State) : State :=
  let s1 := pushPc s
  let s2 := setFlag .b (push (packP s1) s1)
  { s2 with pc := word (readByte s2 brkVectorHi) (readByte s2 brkVectorLo) }

/-- Trap return, 60_exceptions.md R293 and 47_control_flow.md R220: P popped before PC. -/
def returnFromTrap (s : State) : State :=
  let (p, s1) := pop s
  popPc (unpackP p s1)

/-! ### The step around an operation -/

/-- The per-step counters zeroed, 30_encoding.md R100, 70_reset_and_hazards.md R321. -/
def zeroCounters (s : State) : State := { s with memCycles := 0, extraCycles := 0 }

/-- The start of a step, 30_encoding.md R100: both counters zero, PC past the opcode byte. -/
def startStep (s : State) : Except Fault State := advance pcWrap 1 (zeroCounters s)

/-- The end of a step that does not fault: `Done(base + mem_cycles + extra_cycles)`, 30_encoding.md R100,
70_reset_and_hazards.md R320. -/
def endStep (base : Nat) (s : State) : State := { s with cycles := base + s.memCycles + s.extraCycles }

/-- One instruction from its opcode byte on: what 30_encoding.md R100 does around the operation `body`. A fault of the operation
ends the step with no cycle count (60_exceptions.md R280). -/
def runInstr (base : Nat) (body : State → Except Fault State) (s : State) : Host.Outcome State Fault Refusal :=
  match startStep s with
  | .error f => .fault f
  | .ok b =>
    match body b with
    | .ok t => .next (endStep base t)
    | .error f => .fault f

/-- The instruction at PC: opcode byte and the bytes after it, read as data is (20_memory.md R73). An opcode byte with no
table entry raises InvalidOpcode with PC past it and nothing else changed (30_encoding.md R100, 60_exceptions.md R281). Before the first
`Reset` PC holds no value, so the step is refused (70_reset_and_hazards.md R313 step 1, 93_implementation_defined.md U8). -/
def fetchInstr (s : State) : Host.Outcome Instr Fault Refusal :=
  if s.wasReset then
    match startStep s with
    | .error f => .fault f
    | .ok b =>
      let op := readByte s s.pc
      match decodeBytes op (readByte s (s.pc + 1)) (readByte s (s.pc + 2)) with
      | some i => .next i
      | none => .fault (.invalidOpcode op b)
  else .refused .beforeReset

/-! ### What the host may do between steps (00_scope.md R5, R7) -/

/-- `fetch(address)` with its range check, 20_memory.md R60, R62. -/
def platformFetch (address : Int) (s : State) : Except Fault Byte :=
  if 0 ≤ address ∧ address < memorySize then .ok (s.mem.read address.toNat) else .error (.invalidAddress address s)

/-- `store(address, byte)` with its range check, 20_memory.md R61, R62. -/
def platformStore (address : Int) (v : Byte) (s : State) : Except Fault State :=
  if 0 ≤ address ∧ address < memorySize then .ok { s with mem := s.mem.write address.toNat v }
  else .error (.invalidAddress address s)

/-- The memory's own `reset()`, which zeroes every cell (20_memory.md R63), over the first `n` cells. -/
def zeroCells (n : Nat) (s : State) : State :=
  match n with
  | 0 => s
  | k + 1 => zeroCells k { s with mem := s.mem.write k 0x00 }

/-- The memory's own `reset()`, 20_memory.md R63 (conflict C4: another operation than the core's Reset). -/
def memoryReset (s : State) : State := zeroCells memorySize s

/-- The host's write of PC to enter a loaded program, 00_scope.md R7, 70_reset_and_hazards.md R313 (decision D20). -/
def hostSetPc (entry : Word) (s : State) : State := { s with pc := entry }

/-- The `Reset` event: the same state whatever came before, 70_reset_and_hazards.md R310, R312. -/
def resetEvent (_ : State) : State := State.reset

/-- The state with an instruction of at most three bytes stored at PC: the bytes of `w`, those above `nbits` zero, in
ascending address order (30_encoding.md R90). -/
def placeWord (s : State) (nbits w : Nat) : State :=
  let v := w % 2 ^ nbits
  writeByte (s.pc + 2) (BitVec.ofNat 8 (v / 65536))
    (writeByte (s.pc + 1) (BitVec.ofNat 8 (v / 256)) (writeByte s.pc (BitVec.ofNat 8 v) s))

end Sys2Proof.Machine
end

