-- ==== Sys2Proof/Machine/Operands.lean ====
section
/-! DEFINITION. addr_mode_resolver (40_addressing_modes.md): effective addresses, operand values, PC past the operand bytes and the
page-cross cycle. The operand bytes come with the instruction; no instruction can store to its own bytes before it has read
them (20_memory.md R73), so this is the read of R121. -/

namespace Sys2Proof.Machine

/-- `PageCross(a, b)`, 40_addressing_modes.md R136. -/
def pageCross (a b : Word) : Bool := hiByte a != hiByte b

/-- The displacement a relative operand byte stands for, 40_addressing_modes.md R131: sign and magnitude as written, or two's
complement under the other setting of REL_DECODE (decision D7, conflict C2, log entry 6). -/
def displacement (b : Byte) : Int :=
  match relDecode with
  | .asWritten => if b.toNat < 0x80 then b.toNat else -((b.toNat : Int) - 0x80)
  | .twosComplement => if b.toNat < 0x80 then b.toNat else (b.toNat : Int) - 0x100

/-- The sum of R131 before the wrap, `pc` the address of the next instruction. -/
def relSum (b : Byte) (pc : Word) : Int := pc.toNat + displacement b

/-- The target of a relative operand, modulo 65536 (R131, 10_state.md R25). -/
def relTarget (b : Byte) (pc : Word) : Word := BitVec.ofInt 16 (relSum b pc)

/-- The address of a zero-page pointer's second byte, R132, R133 (decision D5, log entry 9). -/
def zpPtrHigh (ptr : Byte) : Word := if zpPtrWrap then zext (ptr + 1) else zext ptr + 1

/-- The 16-bit word a zero-page pointer holds, low byte first, R132, R133. -/
def zpWord (ptr : Byte) (s : State) : Word := word (readByte s (zpPtrHigh ptr)) (readByte s (zext ptr))

/-- The address of an indirect-absolute pointer's second byte, R134 (decision D6, log entry 10). -/
def absPtrHigh (ptr : Word) : Word :=
  if jmpIndPageWrap then word (hiByte ptr) (loByte ptr + 1) else ptr + 1

/-- The 16-bit word an indirect-absolute pointer holds, low byte first, R134. -/
def absWord (ptr : Word) (s : State) : Word := word (readByte s (absPtrHigh ptr)) (readByte s ptr)

/-- The effective address of an operand, R122 to R134; none where the mode has none (R122, R123, R124, conflict C8). `s` has PC
past the operand bytes. -/
def operandAddr (o : Operand) (s : State) : Option Word :=
  match o with
  | .implicit | .accumulator | .immediate _ => none
  | .zeroPage b => some (zext b)
  | .zeroPageX b => some (zext (b + s.x))
  | .zeroPageY b => some (zext (b + s.y))
  | .absolute w => some w
  | .absoluteX w => some (w + zext s.x)
  | .absoluteY w => some (w + zext s.y)
  | .relative b => some (relTarget b s.pc)
  | .indexedIndirect b => some (zpWord (b + s.x) s)
  | .indirectIndexed b => some (zpWord b s + zext s.y)
  | .indirectAbsolute w => some (absWord w s)

/-- The operand value, R137: A, the byte itself, or the byte at the effective address; none for the modes that produce an address
only (relative, indirect-absolute) and for implicit (conflict C8). -/
def operandValue (o : Operand) (s : State) : Option Byte :=
  match o with
  | .implicit | .relative _ | .indirectAbsolute _ => none
  | .accumulator => some s.a
  | .immediate b => some b
  | .zeroPage _ | .zeroPageX _ | .zeroPageY _ | .absolute _ | .absoluteX _ | .absoluteY _
  | .indexedIndirect _ | .indirectIndexed _ => (operandAddr o s).map (readByte s)

/-- What the resolver adds to `mem_cycles`: one when an absolute-X or absolute-Y sum crosses a page (R129, R130), and none in
indirect-indexed mode at the default (R133, decision D16, log entry 14). DESIGN CHOICE: with INDY_PAGE_PENALTY true the cycle falls on every
operation of that mode, STA too; D16 does not say which (log entry 29). -/
def pagePenalty (o : Operand) (s : State) : Nat :=
  match o with
  | .absoluteX w => if pageCross w (w + zext s.x) then 1 else 0
  | .absoluteY w => if pageCross w (w + zext s.y) then 1 else 0
  | .indirectIndexed b => if indyPagePenalty && pageCross (zpWord b s) (zpWord b s + zext s.y) then 1 else 0
  | .implicit | .accumulator | .immediate _ | .zeroPage _ | .zeroPageX _ | .zeroPageY _ | .absolute _
  | .relative _ | .indexedIndirect _ | .indirectAbsolute _ => 0

/-- The address an absolute-X or absolute-Y operand presents to the memory past 0xFFFF where `wrap` (ADDR_WRAP) is false; none where the
sum wraps or stays inside (decisions D4, D27; log entry 5). The wraps of the other modes are the rules' own (R126, R127, R132 to R134). -/
def addrOverrun (wrap : Bool) (o : Operand) (s : State) : Option Int :=
  let past (w : Word) (x : Byte) : Option Int :=
    if !wrap && decide (memorySize ≤ w.toNat + x.toNat) then some (w.toNat + x.toNat) else none
  match o with
  | .absoluteX w => past w s.x
  | .absoluteY w => past w s.y
  | .implicit | .accumulator | .immediate _ | .zeroPage _ | .zeroPageX _ | .zeroPageY _ | .absolute _
  | .relative _ | .indexedIndirect _ | .indirectIndexed _ | .indirectAbsolute _ => none

/-- The resolver, R120: PC past the operand bytes and the page-cross cycle counted; called with mode implicit it raises
ImplicitModeRead (R122, 60_exceptions.md R282). -/
def resolve (o : Operand) (s : State) : Except Fault State :=
  if o = .implicit then .error (.implicitModeRead s)
  else
    match advance pcWrap o.mode.operandBytes s with
    | .error f => .error f
    | .ok t => .ok { t with memCycles := t.memCycles + pagePenalty o t }

/-- The resolver, and then what an operation does with the resolved operand; an address past the address space raises InvalidAddress at
the access (20_memory.md R62, 60_exceptions.md R284). -/
def withOperand (o : Operand) (s : State) (k : State → Except Fault State) : Except Fault State :=
  match resolve o s with
  | .error f => .error f
  | .ok t =>
    match addrOverrun addrWrap o t with
    | some address => .error (.invalidAddress address t)
    | none => k t

/-- An operation that consumes its operand's value, R137. An operand with none raises UnsupportedAddressingMode
(60_exceptions.md R283; log entry 22). -/
def withValue (o : Operand) (s : State) (k : Byte → State → State) : Except Fault State :=
  withOperand o s fun t =>
    match operandValue o t with
    | some v => .ok (k v t)
    | none => .error (.unsupportedAddressingMode s)

/-- An operation that consumes its operand's address and not the byte there (20_memory.md R67). An operand with none raises
UnsupportedAddressingMode (60_exceptions.md R283; log entry 22). -/
def withAddr (o : Operand) (s : State) (k : Word → State → State) : Except Fault State :=
  withOperand o s fun t =>
    match operandAddr o t with
    | some addr => .ok (k addr t)
    | none => .error (.unsupportedAddressingMode s)

/-- A result written back where the operand came from: A in accumulator mode, else the cell at the effective address
(43_shift_rotate.md R174). An operand that has neither is left as it is; `modify` never meets one. -/
def writeBack (o : Operand) (v : Byte) (s : State) : State :=
  match o with
  | .accumulator => { s with a := v }
  | _ =>
    match operandAddr o s with
    | some addr => writeByte addr v s
    | none => s

/-- The read-modify-write frame, 43_shift_rotate.md R174 and 20_memory.md R66: one read, one write of the same place, then
the flags. Immediate has a value and no place to write, so it raises UnsupportedAddressingMode (R124; log entry 22). -/
def modify (o : Operand) (s : State) (result : Byte → State → Byte) (flags : Byte → State → State) :
    Except Fault State :=
  match o with
  | .immediate _ => .error (.unsupportedAddressingMode s)
  | _ => withValue o s fun v t => flags v (writeBack o (result v t) t)

/-- An operation in implicit mode: it never calls the resolver (R122). -/
def implied (f : State → State) (s : State) : Except Fault State := .ok (f s)

end Sys2Proof.Machine
end

