-- ==== Sys2Proof/Machine/Arithmetic.lean ====
section
/-! DEFINITION. ADC and SBC (41_arithmetic.md). Binary whatever D holds (R153). One meaning per row of the opcode table, each over the shared operation
of its mnemonic. -/

namespace Sys2Proof.Machine

/-- ADC, R150: overflow from the operand pair against the untruncated sum, carry from the untruncated sum, A masked, then Z and N
from the masked A. -/
def adc (o : Operand) (s : State) : Except Fault State :=
  withValue o s fun m t =>
    let r : Int := t.a.toNat + m.toNat + flagBit t.flagC
    writeA (BitVec.ofInt 8 r) (checkCarry r (checkOverflowAdd t.a.toNat m.toNat r t))

/-- SBC, R151: as ADC with the untruncated difference, which may be negative; the same `> 0xFF` carry test, so C is always
cleared (conflict C6). -/
def sbc (o : Operand) (s : State) : Except Fault State :=
  withValue o s fun m t =>
    let r : Int := t.a.toNat - m.toNat - (1 - flagBit t.flagC)
    writeA (BitVec.ofInt 8 r) (checkCarry r (checkOverflowSub t.a.toNat m.toNat r t))

/-- `ADC ($nn,X)`, 0x61: R150, mode R132. -/
def execAdcIndexedIndirect (b : Byte) (s : State) : Host.Outcome State Fault Refusal :=
  runInstr (baseCycles (.adcIndexedIndirect b)) (adc (.indexedIndirect b)) s

/-- `ADC $nn`, 0x65: R150, mode R125. -/
def execAdcZeroPage (b : Byte) (s : State) : Host.Outcome State Fault Refusal :=
  runInstr (baseCycles (.adcZeroPage b)) (adc (.zeroPage b)) s

/-- `ADC #$nn`, 0x69: R150, mode R124. -/
def execAdcImmediate (b : Byte) (s : State) : Host.Outcome State Fault Refusal :=
  runInstr (baseCycles (.adcImmediate b)) (adc (.immediate b)) s

/-- `ADC $nnnn`, 0x6D: R150, mode R128. -/
def execAdcAbsolute (w : Word) (s : State) : Host.Outcome State Fault Refusal :=
  runInstr (baseCycles (.adcAbsolute w)) (adc (.absolute w)) s

/-- `ADC ($nn),Y`, 0x71: R150, mode R133. -/
def execAdcIndirectIndexed (b : Byte) (s : State) : Host.Outcome State Fault Refusal :=
  runInstr (baseCycles (.adcIndirectIndexed b)) (adc (.indirectIndexed b)) s

/-- `ADC $nn,X`, 0x75: R150, mode R126. -/
def execAdcZeroPageX (b : Byte) (s : State) : Host.Outcome State Fault Refusal :=
  runInstr (baseCycles (.adcZeroPageX b)) (adc (.zeroPageX b)) s

/-- `ADC $nnnn,Y`, 0x79: R150, mode R130. -/
def execAdcAbsoluteY (w : Word) (s : State) : Host.Outcome State Fault Refusal :=
  runInstr (baseCycles (.adcAbsoluteY w)) (adc (.absoluteY w)) s

/-- `ADC $nnnn,X`, 0x7D: R150, mode R129. -/
def execAdcAbsoluteX (w : Word) (s : State) : Host.Outcome State Fault Refusal :=
  runInstr (baseCycles (.adcAbsoluteX w)) (adc (.absoluteX w)) s

/-- `SBC ($nn,X)`, 0xE1: R151, mode R132. -/
def execSbcIndexedIndirect (b : Byte) (s : State) : Host.Outcome State Fault Refusal :=
  runInstr (baseCycles (.sbcIndexedIndirect b)) (sbc (.indexedIndirect b)) s

/-- `SBC $nn`, 0xE5: R151, mode R125. -/
def execSbcZeroPage (b : Byte) (s : State) : Host.Outcome State Fault Refusal :=
  runInstr (baseCycles (.sbcZeroPage b)) (sbc (.zeroPage b)) s

/-- `SBC #$nn`, 0xE9: R151, mode R124. -/
def execSbcImmediate (b : Byte) (s : State) : Host.Outcome State Fault Refusal :=
  runInstr (baseCycles (.sbcImmediate b)) (sbc (.immediate b)) s

/-- `SBC $nnnn`, 0xED: R151, mode R128. -/
def execSbcAbsolute (w : Word) (s : State) : Host.Outcome State Fault Refusal :=
  runInstr (baseCycles (.sbcAbsolute w)) (sbc (.absolute w)) s

/-- `SBC ($nn),Y`, 0xF1: R151, mode R133. -/
def execSbcIndirectIndexed (b : Byte) (s : State) : Host.Outcome State Fault Refusal :=
  runInstr (baseCycles (.sbcIndirectIndexed b)) (sbc (.indirectIndexed b)) s

/-- `SBC $nn,X`, 0xF5: R151, mode R126. -/
def execSbcZeroPageX (b : Byte) (s : State) : Host.Outcome State Fault Refusal :=
  runInstr (baseCycles (.sbcZeroPageX b)) (sbc (.zeroPageX b)) s

/-- `SBC $nnnn,Y`, 0xF9: R151, mode R130. -/
def execSbcAbsoluteY (w : Word) (s : State) : Host.Outcome State Fault Refusal :=
  runInstr (baseCycles (.sbcAbsoluteY w)) (sbc (.absoluteY w)) s

/-- `SBC $nnnn,X`, 0xFD: R151, mode R129. -/
def execSbcAbsoluteX (w : Word) (s : State) : Host.Outcome State Fault Refusal :=
  runInstr (baseCycles (.sbcAbsoluteX w)) (sbc (.absoluteX w)) s

end Sys2Proof.Machine
end

