-- ==== Sys2Proof/Machine/Branch.lean ====
section
/-! DEFINITION. BCC, BCS, BEQ, BMI, BNE, BPL, BVC, BVS (46_branch.md). One meaning per row of the opcode table, each over the shared operation
of its mnemonic. -/

namespace Sys2Proof.Machine

/-- A taken branch, R200: one cycle, one more when the target is in another page than the next instruction, and PC becomes the target
(conflict C3). Where `wrap` (PC_WRAP) is false, a sum outside 0 to 65535 raises InvalidAddress in place of the write of PC (decisions D3,
D27; log entry 5). -/
def takeBranch (wrap : Bool) (b : Byte) (t : State) : Except Fault State :=
  let target := relTarget b t.pc
  let u := { t with extraCycles := t.extraCycles + 1 + (if pageCross t.pc target then 1 else 0) }
  if !wrap && decide (relSum b t.pc < 0 ∨ memorySize ≤ relSum b t.pc) then .error (.invalidAddress (relSum b t.pc) u)
  else .ok { u with pc := target }

/-- The common frame of the branches, R200: the operand byte is taken in either case, and PC is past it where the branch is not taken. -/
def branch (taken : State → Bool) (b : Byte) (s : State) : Except Fault State :=
  withOperand (.relative b) s fun t => if taken t then takeBranch pcWrap b t else .ok t

/-- `BCC label`, 0x90: R201, mode R131. -/
def execBcc (b : Byte) (s : State) : Host.Outcome State Fault Refusal :=
  runInstr (baseCycles (.bcc b)) (branch (fun t => !t.flagC) b) s

/-- `BCS label`, 0xB0: R202, mode R131. -/
def execBcs (b : Byte) (s : State) : Host.Outcome State Fault Refusal :=
  runInstr (baseCycles (.bcs b)) (branch (fun t => t.flagC) b) s

/-- `BEQ label`, 0xF0: R203, mode R131. -/
def execBeq (b : Byte) (s : State) : Host.Outcome State Fault Refusal :=
  runInstr (baseCycles (.beq b)) (branch (fun t => t.flagZ) b) s

/-- `BMI label`, 0x30: R204, mode R131. -/
def execBmi (b : Byte) (s : State) : Host.Outcome State Fault Refusal :=
  runInstr (baseCycles (.bmi b)) (branch (fun t => t.flagN) b) s

/-- `BNE label`, 0xD0: R205, mode R131. -/
def execBne (b : Byte) (s : State) : Host.Outcome State Fault Refusal :=
  runInstr (baseCycles (.bne b)) (branch (fun t => !t.flagZ) b) s

/-- `BPL label`, 0x10: R206, mode R131. -/
def execBpl (b : Byte) (s : State) : Host.Outcome State Fault Refusal :=
  runInstr (baseCycles (.bpl b)) (branch (fun t => !t.flagN) b) s

/-- `BVC label`, 0x50: R207, mode R131. -/
def execBvc (b : Byte) (s : State) : Host.Outcome State Fault Refusal :=
  runInstr (baseCycles (.bvc b)) (branch (fun t => !t.flagV) b) s

/-- `BVS label`, 0x70: R208, mode R131. -/
def execBvs (b : Byte) (s : State) : Host.Outcome State Fault Refusal :=
  runInstr (baseCycles (.bvs b)) (branch (fun t => t.flagV) b) s

end Sys2Proof.Machine
end

