-- ==== Sys2Proof/Machine/Compare.lean ====
section
/-! DEFINITION. CMP, CPX, CPY (44_compare.md). One meaning per row of the opcode table, each over the shared operation
of its mnemonic. -/

namespace Sys2Proof.Machine

/-- The common frame of the compares, R180: C when the unmasked difference is not negative, Z and N of that same difference. -/
def compare (reg : State → Byte) (o : Operand) (s : State) : Except Fault State :=
  withValue o s fun m t =>
    let r : Int := (reg t).toNat - m.toNat
    setZN r { t with flagC := decide (r ≥ 0) }

/-- `CMP ($nn,X)`, 0xC1: R181, mode R132. -/
def execCmpIndexedIndirect (b : Byte) (s : State) : Host.Outcome State Fault Refusal :=
  runInstr (baseCycles (.cmpIndexedIndirect b)) (compare State.a (.indexedIndirect b)) s

/-- `CMP $nn`, 0xC5: R181, mode R125. -/
def execCmpZeroPage (b : Byte) (s : State) : Host.Outcome State Fault Refusal :=
  runInstr (baseCycles (.cmpZeroPage b)) (compare State.a (.zeroPage b)) s

/-- `CMP #$nn`, 0xC9: R181, mode R124. -/
def execCmpImmediate (b : Byte) (s : State) : Host.Outcome State Fault Refusal :=
  runInstr (baseCycles (.cmpImmediate b)) (compare State.a (.immediate b)) s

/-- `CMP $nnnn`, 0xCD: R181, mode R128. -/
def execCmpAbsolute (w : Word) (s : State) : Host.Outcome State Fault Refusal :=
  runInstr (baseCycles (.cmpAbsolute w)) (compare State.a (.absolute w)) s

/-- `CMP ($nn),Y`, 0xD1: R181, mode R133. -/
def execCmpIndirectIndexed (b : Byte) (s : State) : Host.Outcome State Fault Refusal :=
  runInstr (baseCycles (.cmpIndirectIndexed b)) (compare State.a (.indirectIndexed b)) s

/-- `CMP $nn,X`, 0xD5: R181, mode R126. -/
def execCmpZeroPageX (b : Byte) (s : State) : Host.Outcome State Fault Refusal :=
  runInstr (baseCycles (.cmpZeroPageX b)) (compare State.a (.zeroPageX b)) s

/-- `CMP $nnnn,Y`, 0xD9: R181, mode R130. -/
def execCmpAbsoluteY (w : Word) (s : State) : Host.Outcome State Fault Refusal :=
  runInstr (baseCycles (.cmpAbsoluteY w)) (compare State.a (.absoluteY w)) s

/-- `CMP $nnnn,X`, 0xDD: R181, mode R129. -/
def execCmpAbsoluteX (w : Word) (s : State) : Host.Outcome State Fault Refusal :=
  runInstr (baseCycles (.cmpAbsoluteX w)) (compare State.a (.absoluteX w)) s

/-- `CPX #$nn`, 0xE0: R182, mode R124. -/
def execCpxImmediate (b : Byte) (s : State) : Host.Outcome State Fault Refusal :=
  runInstr (baseCycles (.cpxImmediate b)) (compare State.x (.immediate b)) s

/-- `CPX $nn`, 0xE4: R182, mode R125. -/
def execCpxZeroPage (b : Byte) (s : State) : Host.Outcome State Fault Refusal :=
  runInstr (baseCycles (.cpxZeroPage b)) (compare State.x (.zeroPage b)) s

/-- `CPX $nnnn`, 0xEC: R182, mode R128. -/
def execCpxAbsolute (w : Word) (s : State) : Host.Outcome State Fault Refusal :=
  runInstr (baseCycles (.cpxAbsolute w)) (compare State.x (.absolute w)) s

/-- `CPY #$nn`, 0xC0: R183, mode R124. -/
def execCpyImmediate (b : Byte) (s : State) : Host.Outcome State Fault Refusal :=
  runInstr (baseCycles (.cpyImmediate b)) (compare State.y (.immediate b)) s

/-- `CPY $nn`, 0xC4: R183, mode R125. -/
def execCpyZeroPage (b : Byte) (s : State) : Host.Outcome State Fault Refusal :=
  runInstr (baseCycles (.cpyZeroPage b)) (compare State.y (.zeroPage b)) s

/-- `CPY $nnnn`, 0xCC: R183, mode R128. -/
def execCpyAbsolute (w : Word) (s : State) : Host.Outcome State Fault Refusal :=
  runInstr (baseCycles (.cpyAbsolute w)) (compare State.y (.absolute w)) s

end Sys2Proof.Machine
end

