-- ==== Sys2Proof/Machine/Control.lean ====
section
/-! DEFINITION. JMP, JSR, RTS, BRK, RTI (47_control_flow.md). One meaning per row of the opcode table, each over the shared operation
of its mnemonic. -/

namespace Sys2Proof.Machine

/-- JMP, R215: PC is the resolved address; the byte there is not read. -/
def jmp (o : Operand) (s : State) : Except Fault State := withAddr o s fun target t => { t with pc := target }

/-- JSR, R216: the address of the next instruction itself is pushed, high byte first. -/
def jsr (o : Operand) (s : State) : Except Fault State :=
  withAddr o s fun target t => { pushPc t with pc := target }

/-- RTS, R217: nothing is added to the popped address. -/
def rts (s : State) : State := popPc s

/-- BRK, R219: PC past the byte after the opcode (decision D8, log entry 8), then trap entry. -/
def brk (s : State) : Except Fault State := (advance pcWrap brkPcExtra s).map takeTrap

/-- RTI, R220: trap return. -/
def rti (s : State) : State := returnFromTrap s

/-- `JMP $nnnn`, 0x4C: R215, mode R128. -/
def execJmpAbsolute (w : Word) (s : State) : Host.Outcome State Fault Refusal :=
  runInstr (baseCycles (.jmpAbsolute w)) (jmp (.absolute w)) s

/-- `JMP ($nnnn)`, 0x6C: R215, mode R134. -/
def execJmpIndirectAbsolute (w : Word) (s : State) : Host.Outcome State Fault Refusal :=
  runInstr (baseCycles (.jmpIndirectAbsolute w)) (jmp (.indirectAbsolute w)) s

/-- `JSR $nnnn`, 0x20: R216, mode R128. -/
def execJsr (w : Word) (s : State) : Host.Outcome State Fault Refusal :=
  runInstr (baseCycles (.jsr w)) (jsr (.absolute w)) s

/-- `RTS`, 0x60: R217, mode R122. -/
def execRts (s : State) : Host.Outcome State Fault Refusal :=
  runInstr (baseCycles .rts) (implied rts) s

/-- `BRK`, 0x00: R219, mode R122. -/
def execBrk (s : State) : Host.Outcome State Fault Refusal :=
  runInstr (baseCycles .brk) brk s

/-- `RTI`, 0x40: R220, mode R122. -/
def execRti (s : State) : Host.Outcome State Fault Refusal :=
  runInstr (baseCycles .rti) (implied rti) s

end Sys2Proof.Machine
end

