-- ==== Sys2Proof/Machine/IncDec.lean ====
section
/-! DEFINITION. INC, DEC, INX, INY, DEX, DEY (45_inc_dec.md). None touches C or V. One meaning per row of the opcode table, each over the shared operation
of its mnemonic. -/

namespace Sys2Proof.Machine

/-- INC, R190. -/
def incM (o : Operand) (s : State) : Except Fault State :=
  modify o s (fun v _ => v + 1) fun v t => setZNByte (v + 1) t

/-- DEC, R191. -/
def decM (o : Operand) (s : State) : Except Fault State :=
  modify o s (fun v _ => v - 1) fun v t => setZNByte (v - 1) t

/-- INX, R192. -/
def inx (s : State) : State := writeX (s.x + 1) s

/-- INY, R193. -/
def iny (s : State) : State := writeY (s.y + 1) s

/-- DEX, R194. -/
def dex (s : State) : State := writeX (s.x - 1) s

/-- DEY, R195. -/
def dey (s : State) : State := writeY (s.y - 1) s

/-- `INC $nn`, 0xE6: R190, mode R125. -/
def execIncZeroPage (b : Byte) (s : State) : Host.Outcome State Fault Refusal :=
  runInstr (baseCycles (.incZeroPage b)) (incM (.zeroPage b)) s

/-- `INC $nnnn`, 0xEE: R190, mode R128. -/
def execIncAbsolute (w : Word) (s : State) : Host.Outcome State Fault Refusal :=
  runInstr (baseCycles (.incAbsolute w)) (incM (.absolute w)) s

/-- `INC $nn,X`, 0xF6: R190, mode R126. -/
def execIncZeroPageX (b : Byte) (s : State) : Host.Outcome State Fault Refusal :=
  runInstr (baseCycles (.incZeroPageX b)) (incM (.zeroPageX b)) s

/-- `INC $nnnn,X`, 0xFE: R190, mode R129. -/
def execIncAbsoluteX (w : Word) (s : State) : Host.Outcome State Fault Refusal :=
  runInstr (baseCycles (.incAbsoluteX w)) (incM (.absoluteX w)) s

/-- `DEC $nn`, 0xC6: R191, mode R125. -/
def execDecZeroPage (b : Byte) (s : State) : Host.Outcome State Fault Refusal :=
  runInstr (baseCycles (.decZeroPage b)) (decM (.zeroPage b)) s

/-- `DEC $nnnn`, 0xCE: R191, mode R128. -/
def execDecAbsolute (w : Word) (s : State) : Host.Outcome State Fault Refusal :=
  runInstr (baseCycles (.decAbsolute w)) (decM (.absolute w)) s

/-- `DEC $nn,X`, 0xD6: R191, mode R126. -/
def execDecZeroPageX (b : Byte) (s : State) : Host.Outcome State Fault Refusal :=
  runInstr (baseCycles (.decZeroPageX b)) (decM (.zeroPageX b)) s

/-- `DEC $nnnn,X`, 0xDE: R191, mode R129. -/
def execDecAbsoluteX (w : Word) (s : State) : Host.Outcome State Fault Refusal :=
  runInstr (baseCycles (.decAbsoluteX w)) (decM (.absoluteX w)) s

/-- `INX`, 0xE8: R192, mode R122. -/
def execInx (s : State) : Host.Outcome State Fault Refusal :=
  runInstr (baseCycles .inx) (implied inx) s

/-- `INY`, 0xC8: R193, mode R122. -/
def execIny (s : State) : Host.Outcome State Fault Refusal :=
  runInstr (baseCycles .iny) (implied iny) s

/-- `DEX`, 0xCA: R194, mode R122. -/
def execDex (s : State) : Host.Outcome State Fault Refusal :=
  runInstr (baseCycles .dex) (implied dex) s

/-- `DEY`, 0x88: R195, mode R122. -/
def execDey (s : State) : Host.Outcome State Fault Refusal :=
  runInstr (baseCycles .dey) (implied dey) s

end Sys2Proof.Machine
end

