-- ==== Sys2Proof/Machine/LoadStore.lean ====
section
/-! DEFINITION. LDA, LDX, LDY, STA, STX, STY (49_load_store.md). The whole family is the spec's decision D13, UNVERIFIED (log entry 20). One meaning per row of the opcode table, each over the shared operation
of its mnemonic. -/

namespace Sys2Proof.Machine

/-- LDA, R270. -/
def lda (o : Operand) (s : State) : Except Fault State := withValue o s fun v t => writeA v t

/-- LDX, R271. -/
def ldx (o : Operand) (s : State) : Except Fault State := withValue o s fun v t => writeX v t

/-- LDY, R272. -/
def ldy (o : Operand) (s : State) : Except Fault State := withValue o s fun v t => writeY v t

/-- STA, R273: every address is writable; the old byte is not read. -/
def sta (o : Operand) (s : State) : Except Fault State := withAddr o s fun addr t => writeByte addr t.a t

/-- STX, R274. -/
def stx (o : Operand) (s : State) : Except Fault State := withAddr o s fun addr t => writeByte addr t.x t

/-- STY, R275. -/
def sty (o : Operand) (s : State) : Except Fault State := withAddr o s fun addr t => writeByte addr t.y t

/-- `LDA ($nn,X)`, 0xA1: R270, mode R132. -/
def execLdaIndexedIndirect (b : Byte) (s : State) : Host.Outcome State Fault Refusal :=
  runInstr (baseCycles (.ldaIndexedIndirect b)) (lda (.indexedIndirect b)) s

/-- `LDA $nn`, 0xA5: R270, mode R125. -/
def execLdaZeroPage (b : Byte) (s : State) : Host.Outcome State Fault Refusal :=
  runInstr (baseCycles (.ldaZeroPage b)) (lda (.zeroPage b)) s

/-- `LDA #$nn`, 0xA9: R270, mode R124. -/
def execLdaImmediate (b : Byte) (s : State) : Host.Outcome State Fault Refusal :=
  runInstr (baseCycles (.ldaImmediate b)) (lda (.immediate b)) s

/-- `LDA $nnnn`, 0xAD: R270, mode R128. -/
def execLdaAbsolute (w : Word) (s : State) : Host.Outcome State Fault Refusal :=
  runInstr (baseCycles (.ldaAbsolute w)) (lda (.absolute w)) s

/-- `LDA ($nn),Y`, 0xB1: R270, mode R133. -/
def execLdaIndirectIndexed (b : Byte) (s : State) : Host.Outcome State Fault Refusal :=
  runInstr (baseCycles (.ldaIndirectIndexed b)) (lda (.indirectIndexed b)) s

/-- `LDA $nn,X`, 0xB5: R270, mode R126. -/
def execLdaZeroPageX (b : Byte) (s : State) : Host.Outcome State Fault Refusal :=
  runInstr (baseCycles (.ldaZeroPageX b)) (lda (.zeroPageX b)) s

/-- `LDA $nnnn,Y`, 0xB9: R270, mode R130. -/
def execLdaAbsoluteY (w : Word) (s : State) : Host.Outcome State Fault Refusal :=
  runInstr (baseCycles (.ldaAbsoluteY w)) (lda (.absoluteY w)) s

/-- `LDA $nnnn,X`, 0xBD: R270, mode R129. -/
def execLdaAbsoluteX (w : Word) (s : State) : Host.Outcome State Fault Refusal :=
  runInstr (baseCycles (.ldaAbsoluteX w)) (lda (.absoluteX w)) s

/-- `LDX #$nn`, 0xA2: R271, mode R124. -/
def execLdxImmediate (b : Byte) (s : State) : Host.Outcome State Fault Refusal :=
  runInstr (baseCycles (.ldxImmediate b)) (ldx (.immediate b)) s

/-- `LDX $nn`, 0xA6: R271, mode R125. -/
def execLdxZeroPage (b : Byte) (s : State) : Host.Outcome State Fault Refusal :=
  runInstr (baseCycles (.ldxZeroPage b)) (ldx (.zeroPage b)) s

/-- `LDX $nnnn`, 0xAE: R271, mode R128. -/
def execLdxAbsolute (w : Word) (s : State) : Host.Outcome State Fault Refusal :=
  runInstr (baseCycles (.ldxAbsolute w)) (ldx (.absolute w)) s

/-- `LDX $nn,Y`, 0xB6: R271, mode R127. -/
def execLdxZeroPageY (b : Byte) (s : State) : Host.Outcome State Fault Refusal :=
  runInstr (baseCycles (.ldxZeroPageY b)) (ldx (.zeroPageY b)) s

/-- `LDX $nnnn,Y`, 0xBE: R271, mode R130. -/
def execLdxAbsoluteY (w : Word) (s : State) : Host.Outcome State Fault Refusal :=
  runInstr (baseCycles (.ldxAbsoluteY w)) (ldx (.absoluteY w)) s

/-- `LDY #$nn`, 0xA0: R272, mode R124. -/
def execLdyImmediate (b : Byte) (s : State) : Host.Outcome State Fault Refusal :=
  runInstr (baseCycles (.ldyImmediate b)) (ldy (.immediate b)) s

/-- `LDY $nn`, 0xA4: R272, mode R125. -/
def execLdyZeroPage (b : Byte) (s : State) : Host.Outcome State Fault Refusal :=
  runInstr (baseCycles (.ldyZeroPage b)) (ldy (.zeroPage b)) s

/-- `LDY $nnnn`, 0xAC: R272, mode R128. -/
def execLdyAbsolute (w : Word) (s : State) : Host.Outcome State Fault Refusal :=
  runInstr (baseCycles (.ldyAbsolute w)) (ldy (.absolute w)) s

/-- `LDY $nn,X`, 0xB4: R272, mode R126. -/
def execLdyZeroPageX (b : Byte) (s : State) : Host.Outcome State Fault Refusal :=
  runInstr (baseCycles (.ldyZeroPageX b)) (ldy (.zeroPageX b)) s

/-- `LDY $nnnn,X`, 0xBC: R272, mode R129. -/
def execLdyAbsoluteX (w : Word) (s : State) : Host.Outcome State Fault Refusal :=
  runInstr (baseCycles (.ldyAbsoluteX w)) (ldy (.absoluteX w)) s

/-- `STA ($nn,X)`, 0x81: R273, mode R132. -/
def execStaIndexedIndirect (b : Byte) (s : State) : Host.Outcome State Fault Refusal :=
  runInstr (baseCycles (.staIndexedIndirect b)) (sta (.indexedIndirect b)) s

/-- `STA $nn`, 0x85: R273, mode R125. -/
def execStaZeroPage (b : Byte) (s : State) : Host.Outcome State Fault Refusal :=
  runInstr (baseCycles (.staZeroPage b)) (sta (.zeroPage b)) s

/-- `STA $nnnn`, 0x8D: R273, mode R128. -/
def execStaAbsolute (w : Word) (s : State) : Host.Outcome State Fault Refusal :=
  runInstr (baseCycles (.staAbsolute w)) (sta (.absolute w)) s

/-- `STA ($nn),Y`, 0x91: R273, mode R133. -/
def execStaIndirectIndexed (b : Byte) (s : State) : Host.Outcome State Fault Refusal :=
  runInstr (baseCycles (.staIndirectIndexed b)) (sta (.indirectIndexed b)) s

/-- `STA $nn,X`, 0x95: R273, mode R126. -/
def execStaZeroPageX (b : Byte) (s : State) : Host.Outcome State Fault Refusal :=
  runInstr (baseCycles (.staZeroPageX b)) (sta (.zeroPageX b)) s

/-- `STA $nnnn,Y`, 0x99: R273, mode R130. -/
def execStaAbsoluteY (w : Word) (s : State) : Host.Outcome State Fault Refusal :=
  runInstr (baseCycles (.staAbsoluteY w)) (sta (.absoluteY w)) s

/-- `STA $nnnn,X`, 0x9D: R273, mode R129. -/
def execStaAbsoluteX (w : Word) (s : State) : Host.Outcome State Fault Refusal :=
  runInstr (baseCycles (.staAbsoluteX w)) (sta (.absoluteX w)) s

/-- `STX $nn`, 0x86: R274, mode R125. -/
def execStxZeroPage (b : Byte) (s : State) : Host.Outcome State Fault Refusal :=
  runInstr (baseCycles (.stxZeroPage b)) (stx (.zeroPage b)) s

/-- `STX $nnnn`, 0x8E: R274, mode R128. -/
def execStxAbsolute (w : Word) (s : State) : Host.Outcome State Fault Refusal :=
  runInstr (baseCycles (.stxAbsolute w)) (stx (.absolute w)) s

/-- `STX $nn,Y`, 0x96: R274, mode R127. -/
def execStxZeroPageY (b : Byte) (s : State) : Host.Outcome State Fault Refusal :=
  runInstr (baseCycles (.stxZeroPageY b)) (stx (.zeroPageY b)) s

/-- `STY $nn`, 0x84: R275, mode R125. -/
def execStyZeroPage (b : Byte) (s : State) : Host.Outcome State Fault Refusal :=
  runInstr (baseCycles (.styZeroPage b)) (sty (.zeroPage b)) s

/-- `STY $nnnn`, 0x8C: R275, mode R128. -/
def execStyAbsolute (w : Word) (s : State) : Host.Outcome State Fault Refusal :=
  runInstr (baseCycles (.styAbsolute w)) (sty (.absolute w)) s

/-- `STY $nn,X`, 0x94: R275, mode R126. -/
def execStyZeroPageX (b : Byte) (s : State) : Host.Outcome State Fault Refusal :=
  runInstr (baseCycles (.styZeroPageX b)) (sty (.zeroPageX b)) s

end Sys2Proof.Machine
end

