-- ==== Sys2Proof/Machine/Logical.lean ====
section
/-! DEFINITION. AND, ORA, EOR, BIT (42_logical.md). One meaning per row of the opcode table, each over the shared operation
of its mnemonic. -/

namespace Sys2Proof.Machine

/-- AND, R160. -/
def andA (o : Operand) (s : State) : Except Fault State := withValue o s fun m t => writeA (t.a &&& m) t

/-- ORA, R161. -/
def oraA (o : Operand) (s : State) : Except Fault State := withValue o s fun m t => writeA (t.a ||| m) t

/-- EOR, R162. -/
def eorA (o : Operand) (s : State) : Except Fault State := withValue o s fun m t => writeA (t.a ^^^ m) t

/-- BIT, R163: Z from `A & M`, N and V from bits 7 and 6 of M itself. -/
def bitTest (o : Operand) (s : State) : Except Fault State :=
  withValue o s fun m t =>
    { checkZero (t.a &&& m).toNat t with flagN := m.getLsbD 7, flagV := m.getLsbD 6 }

/-- `AND ($nn,X)`, 0x21: R160, mode R132. -/
def execAndIndexedIndirect (b : Byte) (s : State) : Host.Outcome State Fault Refusal :=
  runInstr (baseCycles (.andIndexedIndirect b)) (andA (.indexedIndirect b)) s

/-- `AND $nn`, 0x25: R160, mode R125. -/
def execAndZeroPage (b : Byte) (s : State) : Host.Outcome State Fault Refusal :=
  runInstr (baseCycles (.andZeroPage b)) (andA (.zeroPage b)) s

/-- `AND #$nn`, 0x29: R160, mode R124. -/
def execAndImmediate (b : Byte) (s : State) : Host.Outcome State Fault Refusal :=
  runInstr (baseCycles (.andImmediate b)) (andA (.immediate b)) s

/-- `AND $nnnn`, 0x2D: R160, mode R128. -/
def execAndAbsolute (w : Word) (s : State) : Host.Outcome State Fault Refusal :=
  runInstr (baseCycles (.andAbsolute w)) (andA (.absolute w)) s

/-- `AND ($nn),Y`, 0x31: R160, mode R133. -/
def execAndIndirectIndexed (b : Byte) (s : State) : Host.Outcome State Fault Refusal :=
  runInstr (baseCycles (.andIndirectIndexed b)) (andA (.indirectIndexed b)) s

/-- `AND $nn,X`, 0x35: R160, mode R126. -/
def execAndZeroPageX (b : Byte) (s : State) : Host.Outcome State Fault Refusal :=
  runInstr (baseCycles (.andZeroPageX b)) (andA (.zeroPageX b)) s

/-- `AND $nnnn,Y`, 0x39: R160, mode R130. -/
def execAndAbsoluteY (w : Word) (s : State) : Host.Outcome State Fault Refusal :=
  runInstr (baseCycles (.andAbsoluteY w)) (andA (.absoluteY w)) s

/-- `AND $nnnn,X`, 0x3D: R160, mode R129. -/
def execAndAbsoluteX (w : Word) (s : State) : Host.Outcome State Fault Refusal :=
  runInstr (baseCycles (.andAbsoluteX w)) (andA (.absoluteX w)) s

/-- `ORA ($nn,X)`, 0x01: R161, mode R132. -/
def execOraIndexedIndirect (b : Byte) (s : State) : Host.Outcome State Fault Refusal :=
  runInstr (baseCycles (.oraIndexedIndirect b)) (oraA (.indexedIndirect b)) s

/-- `ORA $nn`, 0x05: R161, mode R125. -/
def execOraZeroPage (b : Byte) (s : State) : Host.Outcome State Fault Refusal :=
  runInstr (baseCycles (.oraZeroPage b)) (oraA (.zeroPage b)) s

/-- `ORA #$nn`, 0x09: R161, mode R124. -/
def execOraImmediate (b : Byte) (s : State) : Host.Outcome State Fault Refusal :=
  runInstr (baseCycles (.oraImmediate b)) (oraA (.immediate b)) s

/-- `ORA $nnnn`, 0x0D: R161, mode R128. -/
def execOraAbsolute (w : Word) (s : State) : Host.Outcome State Fault Refusal :=
  runInstr (baseCycles (.oraAbsolute w)) (oraA (.absolute w)) s

/-- `ORA ($nn),Y`, 0x11: R161, mode R133. -/
def execOraIndirectIndexed (b : Byte) (s : State) : Host.Outcome State Fault Refusal :=
  runInstr (baseCycles (.oraIndirectIndexed b)) (oraA (.indirectIndexed b)) s

/-- `ORA $nn,X`, 0x15: R161, mode R126. -/
def execOraZeroPageX (b : Byte) (s : State) : Host.Outcome State Fault Refusal :=
  runInstr (baseCycles (.oraZeroPageX b)) (oraA (.zeroPageX b)) s

/-- `ORA $nnnn,Y`, 0x19: R161, mode R130. -/
def execOraAbsoluteY (w : Word) (s : State) : Host.Outcome State Fault Refusal :=
  runInstr (baseCycles (.oraAbsoluteY w)) (oraA (.absoluteY w)) s

/-- `ORA $nnnn,X`, 0x1D: R161, mode R129. -/
def execOraAbsoluteX (w : Word) (s : State) : Host.Outcome State Fault Refusal :=
  runInstr (baseCycles (.oraAbsoluteX w)) (oraA (.absoluteX w)) s

/-- `EOR ($nn,X)`, 0x41: R162, mode R132. -/
def execEorIndexedIndirect (b : Byte) (s : State) : Host.Outcome State Fault Refusal :=
  runInstr (baseCycles (.eorIndexedIndirect b)) (eorA (.indexedIndirect b)) s

/-- `EOR $nn`, 0x45: R162, mode R125. -/
def execEorZeroPage (b : Byte) (s : State) : Host.Outcome State Fault Refusal :=
  runInstr (baseCycles (.eorZeroPage b)) (eorA (.zeroPage b)) s

/-- `EOR #$nn`, 0x49: R162, mode R124. -/
def execEorImmediate (b : Byte) (s : State) : Host.Outcome State Fault Refusal :=
  runInstr (baseCycles (.eorImmediate b)) (eorA (.immediate b)) s

/-- `EOR $nnnn`, 0x4D: R162, mode R128. -/
def execEorAbsolute (w : Word) (s : State) : Host.Outcome State Fault Refusal :=
  runInstr (baseCycles (.eorAbsolute w)) (eorA (.absolute w)) s

/-- `EOR ($nn),Y`, 0x51: R162, mode R133. -/
def execEorIndirectIndexed (b : Byte) (s : State) : Host.Outcome State Fault Refusal :=
  runInstr (baseCycles (.eorIndirectIndexed b)) (eorA (.indirectIndexed b)) s

/-- `EOR $nn,X`, 0x55: R162, mode R126. -/
def execEorZeroPageX (b : Byte) (s : State) : Host.Outcome State Fault Refusal :=
  runInstr (baseCycles (.eorZeroPageX b)) (eorA (.zeroPageX b)) s

/-- `EOR $nnnn,Y`, 0x59: R162, mode R130. -/
def execEorAbsoluteY (w : Word) (s : State) : Host.Outcome State Fault Refusal :=
  runInstr (baseCycles (.eorAbsoluteY w)) (eorA (.absoluteY w)) s

/-- `EOR $nnnn,X`, 0x5D: R162, mode R129. -/
def execEorAbsoluteX (w : Word) (s : State) : Host.Outcome State Fault Refusal :=
  runInstr (baseCycles (.eorAbsoluteX w)) (eorA (.absoluteX w)) s

/-- `BIT $nn`, 0x24: R163, mode R125. -/
def execBitZeroPage (b : Byte) (s : State) : Host.Outcome State Fault Refusal :=
  runInstr (baseCycles (.bitZeroPage b)) (bitTest (.zeroPage b)) s

/-- `BIT $nnnn`, 0x2C: R163, mode R128. -/
def execBitAbsolute (w : Word) (s : State) : Host.Outcome State Fault Refusal :=
  runInstr (baseCycles (.bitAbsolute w)) (bitTest (.absolute w)) s

end Sys2Proof.Machine
end

