-- ==== Sys2Proof/Machine/Shift.lean ====
section
/-! DEFINITION. ASL, LSR, ROL, ROR (43_shift_rotate.md). Z and N from the masked result are the spec's decision D12 (log entry 11). One meaning per row of the opcode table, each over the shared operation
of its mnemonic. -/

namespace Sys2Proof.Machine

/-- The value a shift hands to the zero/negative check, R174: the masked 8-bit result, or the unmasked one under the other setting of
SHIFT_ZN_ON_MASKED. -/
def shiftChecked (wide : Int) : Int := if shiftZnOnMasked then wide % 256 else wide

/-- `t` of ASL, R170: the operand shifted left, unmasked. -/
def aslWide (v : Byte) : Int := v.toNat * 2

/-- `r` of LSR, R171. -/
def lsrWide (v : Byte) : Int := v.toNat / 2

/-- `t` of ROL, R172: the incoming carry in the vacated bit 0, unmasked. -/
def rolWide (v : Byte) (c : Bool) : Int := v.toNat * 2 + flagBit c

/-- `r` of ROR, R173: the incoming carry in the vacated bit 7. -/
def rorWide (v : Byte) (c : Bool) : Int := v.toNat / 2 + 128 * flagBit c

/-- ASL, R170, in the frame of R174. -/
def asl (o : Operand) (s : State) : Except Fault State :=
  modify o s (fun v _ => BitVec.ofInt 8 (aslWide v))
    fun v t => setZN (shiftChecked (aslWide v)) (checkCarry (aslWide v) t)

/-- LSR, R171, in the frame of R174: C is bit 0, the bit shifted out. -/
def lsr (o : Operand) (s : State) : Except Fault State :=
  modify o s (fun v _ => BitVec.ofInt 8 (lsrWide v))
    fun v t => setZN (shiftChecked (lsrWide v)) { t with flagC := v.getLsbD 0 }

/-- ROL, R172, in the frame of R174; the carry before the instruction goes in. -/
def rol (o : Operand) (s : State) : Except Fault State :=
  modify o s (fun v t => BitVec.ofInt 8 (rolWide v t.flagC))
    fun v t => setZN (shiftChecked (rolWide v t.flagC)) (checkCarry (rolWide v t.flagC) t)

/-- ROR, R173, in the frame of R174; the carry before the instruction goes in. -/
def ror (o : Operand) (s : State) : Except Fault State :=
  modify o s (fun v t => BitVec.ofInt 8 (rorWide v t.flagC))
    fun v t => setZN (shiftChecked (rorWide v t.flagC)) { t with flagC := v.getLsbD 0 }

/-- `ASL $nn`, 0x06: R170, mode R125. -/
def execAslZeroPage (b : Byte) (s : State) : Host.Outcome State Fault Refusal :=
  runInstr (baseCycles (.aslZeroPage b)) (asl (.zeroPage b)) s

/-- `ASL`, 0x0A: R170, mode R123. -/
def execAslAccumulator (s : State) : Host.Outcome State Fault Refusal :=
  runInstr (baseCycles .aslAccumulator) (asl .accumulator) s

/-- `ASL $nnnn`, 0x0E: R170, mode R128. -/
def execAslAbsolute (w : Word) (s : State) : Host.Outcome State Fault Refusal :=
  runInstr (baseCycles (.aslAbsolute w)) (asl (.absolute w)) s

/-- `ASL $nn,X`, 0x16: R170, mode R126. -/
def execAslZeroPageX (b : Byte) (s : State) : Host.Outcome State Fault Refusal :=
  runInstr (baseCycles (.aslZeroPageX b)) (asl (.zeroPageX b)) s

/-- `ASL $nnnn,X`, 0x1E: R170, mode R129. -/
def execAslAbsoluteX (w : Word) (s : State) : Host.Outcome State Fault Refusal :=
  runInstr (baseCycles (.aslAbsoluteX w)) (asl (.absoluteX w)) s

/-- `LSR $nn`, 0x46: R171, mode R125. -/
def execLsrZeroPage (b : Byte) (s : State) : Host.Outcome State Fault Refusal :=
  runInstr (baseCycles (.lsrZeroPage b)) (lsr (.zeroPage b)) s

/-- `LSR`, 0x4A: R171, mode R123. -/
def execLsrAccumulator (s : State) : Host.Outcome State Fault Refusal :=
  runInstr (baseCycles .lsrAccumulator) (lsr .accumulator) s

/-- `LSR $nnnn`, 0x4E: R171, mode R128. -/
def execLsrAbsolute (w : Word) (s : State) : Host.Outcome State Fault Refusal :=
  runInstr (baseCycles (.lsrAbsolute w)) (lsr (.absolute w)) s

/-- `LSR $nn,X`, 0x56: R171, mode R126. -/
def execLsrZeroPageX (b : Byte) (s : State) : Host.Outcome State Fault Refusal :=
  runInstr (baseCycles (.lsrZeroPageX b)) (lsr (.zeroPageX b)) s

/-- `LSR $nnnn,X`, 0x5E: R171, mode R129. -/
def execLsrAbsoluteX (w : Word) (s : State) : Host.Outcome State Fault Refusal :=
  runInstr (baseCycles (.lsrAbsoluteX w)) (lsr (.absoluteX w)) s

/-- `ROL $nn`, 0x26: R172, mode R125. -/
def execRolZeroPage (b : Byte) (s : State) : Host.Outcome State Fault Refusal :=
  runInstr (baseCycles (.rolZeroPage b)) (rol (.zeroPage b)) s

/-- `ROL`, 0x2A: R172, mode R123. -/
def execRolAccumulator (s : State) : Host.Outcome State Fault Refusal :=
  runInstr (baseCycles .rolAccumulator) (rol .accumulator) s

/-- `ROL $nnnn`, 0x2E: R172, mode R128. -/
def execRolAbsolute (w : Word) (s : State) : Host.Outcome State Fault Refusal :=
  runInstr (baseCycles (.rolAbsolute w)) (rol (.absolute w)) s

/-- `ROL $nn,X`, 0x36: R172, mode R126. -/
def execRolZeroPageX (b : Byte) (s : State) : Host.Outcome State Fault Refusal :=
  runInstr (baseCycles (.rolZeroPageX b)) (rol (.zeroPageX b)) s

/-- `ROL $nnnn,X`, 0x3E: R172, mode R129. -/
def execRolAbsoluteX (w : Word) (s : State) : Host.Outcome State Fault Refusal :=
  runInstr (baseCycles (.rolAbsoluteX w)) (rol (.absoluteX w)) s

/-- `ROR $nn`, 0x66: R173, mode R125. -/
def execRorZeroPage (b : Byte) (s : State) : Host.Outcome State Fault Refusal :=
  runInstr (baseCycles (.rorZeroPage b)) (ror (.zeroPage b)) s

/-- `ROR`, 0x6A: R173, mode R123. -/
def execRorAccumulator (s : State) : Host.Outcome State Fault Refusal :=
  runInstr (baseCycles .rorAccumulator) (ror .accumulator) s

/-- `ROR $nnnn`, 0x6E: R173, mode R128. -/
def execRorAbsolute (w : Word) (s : State) : Host.Outcome State Fault Refusal :=
  runInstr (baseCycles (.rorAbsolute w)) (ror (.absolute w)) s

/-- `ROR $nn,X`, 0x76: R173, mode R126. -/
def execRorZeroPageX (b : Byte) (s : State) : Host.Outcome State Fault Refusal :=
  runInstr (baseCycles (.rorZeroPageX b)) (ror (.zeroPageX b)) s

/-- `ROR $nnnn,X`, 0x7E: R173, mode R129. -/
def execRorAbsoluteX (w : Word) (s : State) : Host.Outcome State Fault Refusal :=
  runInstr (baseCycles (.rorAbsoluteX w)) (ror (.absoluteX w)) s

end Sys2Proof.Machine
end

