-- ==== Sys2Proof/Machine/StackTransfer.lean ====
section
/-! DEFINITION. Stack instructions, register transfers, flag instructions and NOP (48_stack_transfer_flag.md). One meaning per row of the opcode table, each over the shared operation
of its mnemonic. -/

namespace Sys2Proof.Machine

/-- PHA, R230. -/
def pha (s : State) : State := push s.a s

/-- PHP, R231: P as it reads, bit 4 the B flag. -/
def php (s : State) : State := push (packP s) s

/-- PLA, R232. -/
def pla (s : State) : State :=
  let (v, t) := pop s
  writeA v t

/-- PLP, R233. -/
def plp (s : State) : State :=
  let (v, t) := pop s
  unpackP v t

/-- TAX, R234. -/
def tax (s : State) : State := writeX s.a s

/-- TAY, R235. -/
def tay (s : State) : State := writeY s.a s

/-- TXA, R236. -/
def txa (s : State) : State := writeA s.x s

/-- TYA, R237. -/
def tya (s : State) : State := writeA s.y s

/-- TSX, R238: the 8-bit S (decision D2, log entry 7), with the check. -/
def tsx (s : State) : State := writeX s.sp s

/-- TXS, R239: no flag is written. -/
def txs (s : State) : State := { s with sp := s.x }

/-- NOP, R247. -/
def nop (s : State) : State := s

/-- `PHA`, 0x48: R230, mode R122. -/
def execPha (s : State) : Host.Outcome State Fault Refusal :=
  runInstr (baseCycles .pha) (implied pha) s

/-- `PHP`, 0x08: R231, mode R122. -/
def execPhp (s : State) : Host.Outcome State Fault Refusal :=
  runInstr (baseCycles .php) (implied php) s

/-- `PLA`, 0x68: R232, mode R122. -/
def execPla (s : State) : Host.Outcome State Fault Refusal :=
  runInstr (baseCycles .pla) (implied pla) s

/-- `PLP`, 0x28: R233, mode R122. -/
def execPlp (s : State) : Host.Outcome State Fault Refusal :=
  runInstr (baseCycles .plp) (implied plp) s

/-- `TAX`, 0xAA: R234, mode R122. -/
def execTax (s : State) : Host.Outcome State Fault Refusal :=
  runInstr (baseCycles .tax) (implied tax) s

/-- `TAY`, 0xA8: R235, mode R122. -/
def execTay (s : State) : Host.Outcome State Fault Refusal :=
  runInstr (baseCycles .tay) (implied tay) s

/-- `TXA`, 0x8A: R236, mode R122. -/
def execTxa (s : State) : Host.Outcome State Fault Refusal :=
  runInstr (baseCycles .txa) (implied txa) s

/-- `TYA`, 0x98: R237, mode R122. -/
def execTya (s : State) : Host.Outcome State Fault Refusal :=
  runInstr (baseCycles .tya) (implied tya) s

/-- `TSX`, 0xBA: R238, mode R122. -/
def execTsx (s : State) : Host.Outcome State Fault Refusal :=
  runInstr (baseCycles .tsx) (implied tsx) s

/-- `TXS`, 0x9A: R239, mode R122. -/
def execTxs (s : State) : Host.Outcome State Fault Refusal :=
  runInstr (baseCycles .txs) (implied txs) s

/-- `CLC`, 0x18: R240, mode R122. -/
def execClc (s : State) : Host.Outcome State Fault Refusal :=
  runInstr (baseCycles .clc) (implied (clearFlag .c)) s

/-- `CLD`, 0xD8: R241, mode R122. -/
def execCld (s : State) : Host.Outcome State Fault Refusal :=
  runInstr (baseCycles .cld) (implied (clearFlag .d)) s

/-- `CLI`, 0x58: R242, mode R122. -/
def execCli (s : State) : Host.Outcome State Fault Refusal :=
  runInstr (baseCycles .cli) (implied (clearFlag .i)) s

/-- `CLV`, 0xB8: R243, mode R122. -/
def execClv (s : State) : Host.Outcome State Fault Refusal :=
  runInstr (baseCycles .clv) (implied (clearFlag .v)) s

/-- `SEC`, 0x38: R244, mode R122. -/
def execSec (s : State) : Host.Outcome State Fault Refusal :=
  runInstr (baseCycles .sec) (implied (setFlag .c)) s

/-- `SED`, 0xF8: R245, mode R122. -/
def execSed (s : State) : Host.Outcome State Fault Refusal :=
  runInstr (baseCycles .sed) (implied (setFlag .d)) s

/-- `SEI`, 0x78: R246, mode R122. -/
def execSei (s : State) : Host.Outcome State Fault Refusal :=
  runInstr (baseCycles .sei) (implied (setFlag .i)) s

/-- `NOP`, 0xEA: R247, mode R122. -/
def execNop (s : State) : Host.Outcome State Fault Refusal :=
  runInstr (baseCycles .nop) (implied nop) s

end Sys2Proof.Machine
end

