-- ==== Sys2Proof/Machine/Dispatch.lean ====
section
/-! DEFINITION. One arm per constructor of `Instr`, each one call of that instruction's meaning. -/

namespace Sys2Proof.Machine

def exec (i : Instr) (s : State) : Host.Outcome State Fault Refusal :=
  match i with
  | .adcIndexedIndirect b => Sys2Proof.Machine.execAdcIndexedIndirect b s
  | .adcZeroPage b => Sys2Proof.Machine.execAdcZeroPage b s
  | .adcImmediate b => Sys2Proof.Machine.execAdcImmediate b s
  | .adcAbsolute w => Sys2Proof.Machine.execAdcAbsolute w s
  | .adcIndirectIndexed b => Sys2Proof.Machine.execAdcIndirectIndexed b s
  | .adcZeroPageX b => Sys2Proof.Machine.execAdcZeroPageX b s
  | .adcAbsoluteY w => Sys2Proof.Machine.execAdcAbsoluteY w s
  | .adcAbsoluteX w => Sys2Proof.Machine.execAdcAbsoluteX w s
  | .sbcIndexedIndirect b => Sys2Proof.Machine.execSbcIndexedIndirect b s
  | .sbcZeroPage b => Sys2Proof.Machine.execSbcZeroPage b s
  | .sbcImmediate b => Sys2Proof.Machine.execSbcImmediate b s
  | .sbcAbsolute w => Sys2Proof.Machine.execSbcAbsolute w s
  | .sbcIndirectIndexed b => Sys2Proof.Machine.execSbcIndirectIndexed b s
  | .sbcZeroPageX b => Sys2Proof.Machine.execSbcZeroPageX b s
  | .sbcAbsoluteY w => Sys2Proof.Machine.execSbcAbsoluteY w s
  | .sbcAbsoluteX w => Sys2Proof.Machine.execSbcAbsoluteX w s
  | .andIndexedIndirect b => Sys2Proof.Machine.execAndIndexedIndirect b s
  | .andZeroPage b => Sys2Proof.Machine.execAndZeroPage b s
  | .andImmediate b => Sys2Proof.Machine.execAndImmediate b s
  | .andAbsolute w => Sys2Proof.Machine.execAndAbsolute w s
  | .andIndirectIndexed b => Sys2Proof.Machine.execAndIndirectIndexed b s
  | .andZeroPageX b => Sys2Proof.Machine.execAndZeroPageX b s
  | .andAbsoluteY w => Sys2Proof.Machine.execAndAbsoluteY w s
  | .andAbsoluteX w => Sys2Proof.Machine.execAndAbsoluteX w s
  | .oraIndexedIndirect b => Sys2Proof.Machine.execOraIndexedIndirect b s
  | .oraZeroPage b => Sys2Proof.Machine.execOraZeroPage b s
  | .oraImmediate b => Sys2Proof.Machine.execOraImmediate b s
  | .oraAbsolute w => Sys2Proof.Machine.execOraAbsolute w s
  | .oraIndirectIndexed b => Sys2Proof.Machine.execOraIndirectIndexed b s
  | .oraZeroPageX b => Sys2Proof.Machine.execOraZeroPageX b s
  | .oraAbsoluteY w => Sys2Proof.Machine.execOraAbsoluteY w s
  | .oraAbsoluteX w => Sys2Proof.Machine.execOraAbsoluteX w s
  | .eorIndexedIndirect b => Sys2Proof.Machine.execEorIndexedIndirect b s
  | .eorZeroPage b => Sys2Proof.Machine.execEorZeroPage b s
  | .eorImmediate b => Sys2Proof.Machine.execEorImmediate b s
  | .eorAbsolute w => Sys2Proof.Machine.execEorAbsolute w s
  | .eorIndirectIndexed b => Sys2Proof.Machine.execEorIndirectIndexed b s
  | .eorZeroPageX b => Sys2Proof.Machine.execEorZeroPageX b s
  | .eorAbsoluteY w => Sys2Proof.Machine.execEorAbsoluteY w s
  | .eorAbsoluteX w => Sys2Proof.Machine.execEorAbsoluteX w s
  | .bitZeroPage b => Sys2Proof.Machine.execBitZeroPage b s
  | .bitAbsolute w => Sys2Proof.Machine.execBitAbsolute w s
  | .aslZeroPage b => Sys2Proof.Machine.execAslZeroPage b s
  | .aslAccumulator => Sys2Proof.Machine.execAslAccumulator s
  | .aslAbsolute w => Sys2Proof.Machine.execAslAbsolute w s
  | .aslZeroPageX b => Sys2Proof.Machine.execAslZeroPageX b s
  | .aslAbsoluteX w => Sys2Proof.Machine.execAslAbsoluteX w s
  | .lsrZeroPage b => Sys2Proof.Machine.execLsrZeroPage b s
  | .lsrAccumulator => Sys2Proof.Machine.execLsrAccumulator s
  | .lsrAbsolute w => Sys2Proof.Machine.execLsrAbsolute w s
  | .lsrZeroPageX b => Sys2Proof.Machine.execLsrZeroPageX b s
  | .lsrAbsoluteX w => Sys2Proof.Machine.execLsrAbsoluteX w s
  | .rolZeroPage b => Sys2Proof.Machine.execRolZeroPage b s
  | .rolAccumulator => Sys2Proof.Machine.execRolAccumulator s
  | .rolAbsolute w => Sys2Proof.Machine.execRolAbsolute w s
  | .rolZeroPageX b => Sys2Proof.Machine.execRolZeroPageX b s
  | .rolAbsoluteX w => Sys2Proof.Machine.execRolAbsoluteX w s
  | .rorZeroPage b => Sys2Proof.Machine.execRorZeroPage b s
  | .rorAccumulator => Sys2Proof.Machine.execRorAccumulator s
  | .rorAbsolute w => Sys2Proof.Machine.execRorAbsolute w s
  | .rorZeroPageX b => Sys2Proof.Machine.execRorZeroPageX b s
  | .rorAbsoluteX w => Sys2Proof.Machine.execRorAbsoluteX w s
  | .cmpIndexedIndirect b => Sys2Proof.Machine.execCmpIndexedIndirect b s
  | .cmpZeroPage b => Sys2Proof.Machine.execCmpZeroPage b s
  | .cmpImmediate b => Sys2Proof.Machine.execCmpImmediate b s
  | .cmpAbsolute w => Sys2Proof.Machine.execCmpAbsolute w s
  | .cmpIndirectIndexed b => Sys2Proof.Machine.execCmpIndirectIndexed b s
  | .cmpZeroPageX b => Sys2Proof.Machine.execCmpZeroPageX b s
  | .cmpAbsoluteY w => Sys2Proof.Machine.execCmpAbsoluteY w s
  | .cmpAbsoluteX w => Sys2Proof.Machine.execCmpAbsoluteX w s
  | .cpxImmediate b => Sys2Proof.Machine.execCpxImmediate b s
  | .cpxZeroPage b => Sys2Proof.Machine.execCpxZeroPage b s
  | .cpxAbsolute w => Sys2Proof.Machine.execCpxAbsolute w s
  | .cpyImmediate b => Sys2Proof.Machine.execCpyImmediate b s
  | .cpyZeroPage b => Sys2Proof.Machine.execCpyZeroPage b s
  | .cpyAbsolute w => Sys2Proof.Machine.execCpyAbsolute w s
  | .incZeroPage b => Sys2Proof.Machine.execIncZeroPage b s
  | .incAbsolute w => Sys2Proof.Machine.execIncAbsolute w s
  | .incZeroPageX b => Sys2Proof.Machine.execIncZeroPageX b s
  | .incAbsoluteX w => Sys2Proof.Machine.execIncAbsoluteX w s
  | .decZeroPage b => Sys2Proof.Machine.execDecZeroPage b s
  | .decAbsolute w => Sys2Proof.Machine.execDecAbsolute w s
  | .decZeroPageX b => Sys2Proof.Machine.execDecZeroPageX b s
  | .decAbsoluteX w => Sys2Proof.Machine.execDecAbsoluteX w s
  | .inx => Sys2Proof.Machine.execInx s
  | .iny => Sys2Proof.Machine.execIny s
  | .dex => Sys2Proof.Machine.execDex s
  | .dey => Sys2Proof.Machine.execDey s
  | .bcc b => Sys2Proof.Machine.execBcc b s
  | .bcs b => Sys2Proof.Machine.execBcs b s
  | .beq b => Sys2Proof.Machine.execBeq b s
  | .bmi b => Sys2Proof.Machine.execBmi b s
  | .bne b => Sys2Proof.Machine.execBne b s
  | .bpl b => Sys2Proof.Machine.execBpl b s
  | .bvc b => Sys2Proof.Machine.execBvc b s
  | .bvs b => Sys2Proof.Machine.execBvs b s
  | .jmpAbsolute w => Sys2Proof.Machine.execJmpAbsolute w s
  | .jmpIndirectAbsolute w => Sys2Proof.Machine.execJmpIndirectAbsolute w s
  | .jsr w => Sys2Proof.Machine.execJsr w s
  | .rts => Sys2Proof.Machine.execRts s
  | .brk => Sys2Proof.Machine.execBrk s
  | .rti => Sys2Proof.Machine.execRti s
  | .pha => Sys2Proof.Machine.execPha s
  | .php => Sys2Proof.Machine.execPhp s
  | .pla => Sys2Proof.Machine.execPla s
  | .plp => Sys2Proof.Machine.execPlp s
  | .tax => Sys2Proof.Machine.execTax s
  | .tay => Sys2Proof.Machine.execTay s
  | .txa => Sys2Proof.Machine.execTxa s
  | .tya => Sys2Proof.Machine.execTya s
  | .tsx => Sys2Proof.Machine.execTsx s
  | .txs => Sys2Proof.Machine.execTxs s
  | .clc => Sys2Proof.Machine.execClc s
  | .cld => Sys2Proof.Machine.execCld s
  | .cli => Sys2Proof.Machine.execCli s
  | .clv => Sys2Proof.Machine.execClv s
  | .sec => Sys2Proof.Machine.execSec s
  | .sed => Sys2Proof.Machine.execSed s
  | .sei => Sys2Proof.Machine.execSei s
  | .nop => Sys2Proof.Machine.execNop s
  | .ldaIndexedIndirect b => Sys2Proof.Machine.execLdaIndexedIndirect b s
  | .ldaZeroPage b => Sys2Proof.Machine.execLdaZeroPage b s
  | .ldaImmediate b => Sys2Proof.Machine.execLdaImmediate b s
  | .ldaAbsolute w => Sys2Proof.Machine.execLdaAbsolute w s
  | .ldaIndirectIndexed b => Sys2Proof.Machine.execLdaIndirectIndexed b s
  | .ldaZeroPageX b => Sys2Proof.Machine.execLdaZeroPageX b s
  | .ldaAbsoluteY w => Sys2Proof.Machine.execLdaAbsoluteY w s
  | .ldaAbsoluteX w => Sys2Proof.Machine.execLdaAbsoluteX w s
  | .ldxImmediate b => Sys2Proof.Machine.execLdxImmediate b s
  | .ldxZeroPage b => Sys2Proof.Machine.execLdxZeroPage b s
  | .ldxAbsolute w => Sys2Proof.Machine.execLdxAbsolute w s
  | .ldxZeroPageY b => Sys2Proof.Machine.execLdxZeroPageY b s
  | .ldxAbsoluteY w => Sys2Proof.Machine.execLdxAbsoluteY w s
  | .ldyImmediate b => Sys2Proof.Machine.execLdyImmediate b s
  | .ldyZeroPage b => Sys2Proof.Machine.execLdyZeroPage b s
  | .ldyAbsolute w => Sys2Proof.Machine.execLdyAbsolute w s
  | .ldyZeroPageX b => Sys2Proof.Machine.execLdyZeroPageX b s
  | .ldyAbsoluteX w => Sys2Proof.Machine.execLdyAbsoluteX w s
  | .staIndexedIndirect b => Sys2Proof.Machine.execStaIndexedIndirect b s
  | .staZeroPage b => Sys2Proof.Machine.execStaZeroPage b s
  | .staAbsolute w => Sys2Proof.Machine.execStaAbsolute w s
  | .staIndirectIndexed b => Sys2Proof.Machine.execStaIndirectIndexed b s
  | .staZeroPageX b => Sys2Proof.Machine.execStaZeroPageX b s
  | .staAbsoluteY w => Sys2Proof.Machine.execStaAbsoluteY w s
  | .staAbsoluteX w => Sys2Proof.Machine.execStaAbsoluteX w s
  | .stxZeroPage b => Sys2Proof.Machine.execStxZeroPage b s
  | .stxAbsolute w => Sys2Proof.Machine.execStxAbsolute w s
  | .stxZeroPageY b => Sys2Proof.Machine.execStxZeroPageY b s
  | .styZeroPage b => Sys2Proof.Machine.execStyZeroPage b s
  | .styAbsolute w => Sys2Proof.Machine.execStyAbsolute w s
  | .styZeroPageX b => Sys2Proof.Machine.execStyZeroPageX b s

end Sys2Proof.Machine
end

