-- ==== Sys2Proof/Machine/Step.lean ====
section
/-! DEFINITION. The step (30_encoding.md R100): fetch, decode, run; and where the host places the next instruction. -/

namespace Sys2Proof.Machine

/-- One `Step`: exactly one instruction, the fault of its opcode byte, or the refusal of a step before the first
`Reset` (00_scope.md R5, 30_encoding.md R100). -/
def step (s : State) : Host.Outcome State Fault Refusal :=
  match fetchInstr s with
  | .next i => exec i s
  | .fault f => .fault f
  | .refused r => .refused r

/-- The state with that instruction stored at PC, where `step` fetches next. -/
def State.withFetchWord (s : State) (nbits w : Nat) : State := placeWord s nbits w

end Sys2Proof.Machine
end

