-- ==== Sys2Proof/Safety.lean ====
section
/-! DEFINITION. What counts as a safe run, and the invariant of the machine's states. -/

namespace Sys2Proof.Machine

/-- A run of `n` steps that neither faults nor is refused; the spec has no halt, so a run is as long as the host makes it
(70_reset_and_hazards.md R332). -/
def SafeRun : Nat → State → Prop
  | 0, _ => True
  | n + 1, s => ∃ t, step s = .next t ∧ SafeRun n t

/-- The invariant: memory in canonical form, so inside the address space (20_memory.md R60), and the per-step counters and the cycle
result inside the bounds of 70_reset_and_hazards.md R320, R321 (0 cycles before the first step, log entry 2), of a core that has been Reset
(R313 step 1, log entry 24). -/
abbrev State.Inv (s : State) : Prop :=
  Memory.wf s.mem ∧ s.memCycles ≤ 1 ∧ s.extraCycles ≤ 2 ∧ (s.cycles = 0 ∨ (2 ≤ s.cycles ∧ s.cycles ≤ 8)) ∧
    s.wasReset = true

end Sys2Proof.Machine
end

