-- ==== Sys2Proof/Certificates/Slice0/Obligations.lean ====
section
/-! DEFINITION. The statements for the provers, from the numbered rules of spec/. Helper definitions stand under
`Sys2Proof.Claims`; they say what a rule says, in the rule's own terms, and call nothing of a meaning but the operand functions.
Opcode values and base cycle counts are the spec's decisions D14 and D15 (log entries 12, 13), the wrap of PC is D3 and of an
indexed sum D4 (log entry 5), the 8-bit S is D2 (log entry 7): a statement that shows one of them is `derived`. -/

namespace Sys2Proof.Claims

open Sys2Proof.Machine

/-- `s` after an instruction that did nothing but advance PC past its own bytes (10_state.md R24) and be counted
(70_reset_and_hazards.md R320, R323). -/
def ranPast (i : Instr) (s : State) : State :=
  { s with
    pc := s.pc + BitVec.ofNat 16 i.length
    memCycles := pagePenalty i.operand s
    extraCycles := 0
    cycles := baseCycles i + pagePenalty i.operand s }

/-- Z and N as the zero/negative check of a masked byte leaves them (10_state.md R37). -/
def checked (v : Byte) (s : State) : State := { s with flagZ := decide (v = 0), flagN := v.getLsbD 7 }

/-- The read-modify-write of one cell: `t` holds `result` at `addr` and every other byte as before, Z and N are those of `result`,
C is `carry`, and nothing else changed but PC and the cycle fields. -/
def CellRewritten (i : Instr) (s t : State) (addr : Word) (result : Byte) (carry : Bool) : Prop :=
  readByte t addr = result ∧ (∀ b, b ≠ addr → readByte t b = readByte s b) ∧
    t = checked result { ranPast i s with flagC := carry, mem := t.mem }

/-- One shift or rotate (43_shift_rotate.md R174 and R170 to R173): its accumulator form and its memory forms complete with the
result and the carry given as functions of the operand and the carry before. -/
def ShiftDoes (op : Operation) (result : Byte → Bool → Byte) (carry : Byte → Bool) : Prop :=
  (∀ i s, i.operation = op → i.operand = .accumulator →
    exec i s = .next (checked (result s.a s.flagC)
      { ranPast i s with a := result s.a s.flagC, flagC := carry s.a })) ∧
  (∀ i s, i.operation = op → i.operand ≠ .accumulator →
    ∃ addr t, operandAddr i.operand s = some addr ∧ exec i s = .next t ∧
      CellRewritten i s t addr (result (readByte s addr) s.flagC) (carry (readByte s addr)))

/-- The register a compare names (44_compare.md R181 to R183). -/
def comparedRegister (s : State) : Operation → Option Byte
  | .cmp => some s.a
  | .cpx => some s.x
  | .cpy => some s.y
  | _ => none

/-- The condition of a branch (46_branch.md R201 to R208). -/
def branchCondition (s : State) : Operation → Option Bool
  | .bcc => some !s.flagC
  | .bcs => some s.flagC
  | .beq => some s.flagZ
  | .bne => some !s.flagZ
  | .bmi => some s.flagN
  | .bpl => some !s.flagN
  | .bvc => some !s.flagV
  | .bvs => some s.flagV
  | _ => none

/-- The register a store stores (49_load_store.md R273 to R275). -/
def storedRegister (s : State) : Operation → Option Byte
  | .sta => some s.a
  | .stx => some s.x
  | .sty => some s.y
  | _ => none

/-- The flag a flag instruction writes and the value it gives it (48_stack_transfer_flag.md R240 to R246). -/
def flagWritten : Operation → Option (Flag × Bool)
  | .clc => some (.c, false)
  | .cld => some (.d, false)
  | .cli => some (.i, false)
  | .clv => some (.v, false)
  | .sec => some (.c, true)
  | .sed => some (.d, true)
  | .sei => some (.i, true)
  | _ => none

/-- The 105 bytes of 30_encoding.md R98, its flat list. -/
def invalidOpcodes : List Byte :=
  [0x02, 0x03, 0x04, 0x07, 0x0B, 0x0C, 0x0F, 0x12, 0x13, 0x14, 0x17, 0x1A, 0x1B, 0x1C, 0x1F, 0x22, 0x23, 0x27, 0x2B,
   0x2F, 0x32, 0x33, 0x34, 0x37, 0x3A, 0x3B, 0x3C, 0x3F, 0x42, 0x43, 0x44, 0x47, 0x4B, 0x4F] ++
  [0x52, 0x53, 0x54, 0x57, 0x5A, 0x5B, 0x5C, 0x5F, 0x62, 0x63, 0x64, 0x67, 0x6B, 0x6F, 0x72, 0x73, 0x74, 0x77, 0x7A,
   0x7B, 0x7C, 0x7F, 0x80, 0x82, 0x83, 0x87, 0x89, 0x8B, 0x8F, 0x92, 0x93, 0x97, 0x9B, 0x9C, 0x9E, 0x9F] ++
  [0xA3, 0xA7, 0xAB, 0xAF, 0xB2, 0xB3, 0xB7, 0xBB, 0xBF, 0xC2, 0xC3, 0xC7, 0xCB, 0xCF, 0xD2, 0xD3, 0xD4, 0xD7, 0xDA,
   0xDB, 0xDC, 0xDF, 0xE2, 0xE3, 0xE7, 0xEB, 0xEF, 0xF2, 0xF3, 0xF4, 0xF7, 0xFA, 0xFB, 0xFC, 0xFF]

/-- The sixteen cleared cells of 70_reset_and_hazards.md R311. -/
def clearedCells : List Word :=
  [0x0008, 0x0009, 0x000A, 0x000F, 0x0808, 0x0809, 0x080A, 0x080F,
   0x1008, 0x1009, 0x100A, 0x100F, 0x1808, 0x1809, 0x180A, 0x180F]

/-- "Written by" of A, 10_state.md R21. -/
def writesA (i : Instr) : Bool :=
  match i.operation with
  | .adc | .sbc | .and | .ora | .eor | .lda | .pla | .txa | .tya => true
  | .asl | .lsr | .rol | .ror => i.mode == .accumulator
  | _ => false

/-- "Read by" of A, 10_state.md R21. -/
def readsA (i : Instr) : Bool :=
  match i.operation with
  | .adc | .sbc | .and | .ora | .eor | .bit | .cmp | .sta | .pha | .tax | .tay => true
  | .asl | .lsr | .rol | .ror => i.mode == .accumulator
  | _ => false

/-- "Written by" of X, 10_state.md R22. -/
def writesX (i : Instr) : Bool :=
  match i.operation with
  | .ldx | .tax | .tsx | .inx | .dex => true
  | _ => false

/-- "Read by" of X, 10_state.md R22: six operations and three modes. -/
def readsX (i : Instr) : Bool :=
  (match i.operation with
    | .stx | .txa | .txs | .cpx | .inx | .dex => true
    | _ => false) ||
  (match i.mode with
    | .zeroPageX | .absoluteX | .indexedIndirect => true
    | _ => false)

/-- "Written by" of Y, 10_state.md R22. -/
def writesY (i : Instr) : Bool :=
  match i.operation with
  | .ldy | .tay | .iny | .dey => true
  | _ => false

/-- "Read by" of Y, 10_state.md R22: five operations and three modes. -/
def readsY (i : Instr) : Bool :=
  (match i.operation with
    | .sty | .tya | .cpy | .iny | .dey => true
    | _ => false) ||
  (match i.mode with
    | .zeroPageY | .absoluteY | .indirectIndexed => true
    | _ => false)

/-- The operations that push or pop (47_control_flow.md, 48_stack_transfer_flag.md). -/
def usesStack (i : Instr) : Bool :=
  match i.operation with
  | .pha | .php | .pla | .plp | .jsr | .rts | .brk | .rti => true
  | _ => false

/-- "Written by" of each flag, 10_state.md R31. -/
def writesFlag (f : Flag) (i : Instr) : Bool :=
  match f with
  | .c =>
    match i.operation with
    | .adc | .sbc | .asl | .lsr | .rol | .ror | .cmp | .cpx | .cpy | .clc | .sec | .plp | .rti => true
    | _ => false
  | .z | .n =>
    match i.operation with
    | .lda | .ldx | .ldy | .tax | .tay | .txa | .tya | .pla | .tsx | .inc | .dec | .inx | .iny | .dex | .dey
    | .adc | .sbc | .and | .ora | .eor | .asl | .lsr | .rol | .ror | .cmp | .cpx | .cpy | .bit | .plp | .rti => true
    | _ => false
  | .i =>
    match i.operation with
    | .sei | .cli | .plp | .rti => true
    | _ => false
  | .d =>
    match i.operation with
    | .sed | .cld | .plp | .rti => true
    | _ => false
  | .b =>
    match i.operation with
    | .brk | .plp | .rti => true
    | _ => false
  | .v =>
    match i.operation with
    | .adc | .sbc | .bit | .clv | .plp | .rti => true
    | _ => false

/-- "Read by" of each flag, 10_state.md R31; PHP and BRK read all seven as part of P. -/
def readsFlag (f : Flag) (i : Instr) : Bool :=
  match i.operation with
  | .php | .brk => true
  | .adc | .sbc | .rol | .ror | .bcc | .bcs => f == .c
  | .beq | .bne => f == .z
  | .bvc | .bvs => f == .v
  | .bmi | .bpl => f == .n
  | _ => false

/-- The addresses an instruction stores to: a store or a memory read-modify-write at its effective address, a push at the stack
address, high byte of PC first. -/
def storedAddrs (i : Instr) (s : State) : List Word :=
  match i.operation with
  | .sta | .stx | .sty | .inc | .dec | .asl | .lsr | .rol | .ror => (operandAddr i.operand s).toList
  | .pha | .php => [stackAddr s.sp]
  | .jsr => [stackAddr s.sp, stackAddr (s.sp - 1)]
  | .brk => [stackAddr s.sp, stackAddr (s.sp - 1), stackAddr (s.sp - 2)]
  | _ => []

/-- The operations that write PC themselves: the branches and the five of 47_control_flow.md (10_state.md R24). -/
def writesPc (i : Instr) : Bool :=
  match i.operation with
  | .bcc | .bcs | .beq | .bmi | .bne | .bpl | .bvc | .bvs | .jmp | .jsr | .rts | .brk | .rti => true
  | _ => false

/-- The base and the index of the two modes with a page-cross cycle (40_addressing_modes.md R129, R130). -/
def indexedBase (s : State) : Operand → Option (Word × Byte)
  | .absoluteX w => some (w, s.x)
  | .absoluteY w => some (w, s.y)
  | _ => none

end Sys2Proof.Claims

open Sys2Proof Sys2Proof.Machine Sys2Proof.Claims

/-! ### Encoding and the step -/

/-- 30_encoding.md R90, R91, R96: every instruction's bytes decode to that instruction, with whatever follows left over. The opcode values:
decision D14 (log entry 12). -/
def Obligations.DecodeOfEncode : Prop :=
  ∀ (i : Instr) (rest : List Byte), decode (encode i ++ rest) = .ok (i, rest)

/-- 30_encoding.md R91, R96: bytes that decode begin with the encoding of what they decode to. The opcode values:
decision D14 (log entry 12). -/
def Obligations.EncodeOfDecode : Prop :=
  ∀ (bytes rest : List Byte) (i : Instr), decode bytes = .ok (i, rest) → bytes = encode i ++ rest

/-- Words written out from 30_encoding.md R95 and R96, at least one of each family. The opcode values: decision D14 (log entry 12). -/
def Obligations.TableWordsDecode : Prop :=
  decode [0x69, 0x42] = .ok (.adcImmediate 0x42, []) ∧
  decode [0x6D, 0x20, 0x10] = .ok (.adcAbsolute 0x1020, []) ∧
  decode [0xE8, 0x10, 0x01] = .ok (.inx, [0x10, 0x01]) ∧
  decode [0x10, 0x01, 0xE8] = .ok (.bpl 0x01, [0xE8]) ∧
  decode [0x8A] = .ok (.txa, []) ∧
  decode [0xFF] = .error (.invalidOpcode 0xFF) ∧
  decode [0x2C, 0x00, 0x02] = .ok (.bitAbsolute 0x0200, []) ∧
  decode [0x7E, 0xF0, 0x10] = .ok (.rorAbsoluteX 0x10F0, []) ∧
  decode [0xD1, 0x40] = .ok (.cmpIndirectIndexed 0x40, []) ∧
  decode [0x6C, 0x20, 0x01] = .ok (.jmpIndirectAbsolute 0x0120, []) ∧
  decode [0x81, 0x20] = .ok (.staIndexedIndirect 0x20, [])

/-- 30_encoding.md R100: when the bytes at PC decode to `i`, the step is `exec` of `i` at that same state; `exec` itself advances PC
past the instruction's bytes and counts the cycles. The core has been Reset: before that PC holds no value
(70_reset_and_hazards.md R313 step 1, log entry 24). -/
def Obligations.StepRunsDecodedInstruction : Prop :=
  ∀ (s : State) (i : Instr) (rest : List Byte), s.wasReset = true →
    decode [readByte s s.pc, readByte s (s.pc + 1), readByte s (s.pc + 2)] = .ok (i, rest) → step s = exec i s

/-- 60_exceptions.md R281 and 30_encoding.md R98: each of the 105 bytes faults, with PC advanced by one and A, X, Y, S, every flag
and all memory as they were; the per-step counters were zeroed at the step's start (70_reset_and_hazards.md R321). Which bytes are
invalid: decision D14 (log entry 12). -/
def Obligations.InvalidOpcodeFaults : Prop :=
  ∀ s : State, s.wasReset = true → readByte s s.pc ∈ invalidOpcodes →
    step s = .fault (.invalidOpcode (readByte s s.pc) { s with pc := s.pc + 1, memCycles := 0, extraCycles := 0 })

/-- 30_encoding.md R98, 60_exceptions.md R282, R283, R284: any other byte at PC is an instruction that completes, so the three other
faults and every refusal are unreachable. Which bytes are valid: decision D14 (log entry 12); that InvalidAddress is unreachable: decisions D3,
D4, D27 (log entry 5). -/
def Obligations.ValidOpcodeCompletes : Prop :=
  ∀ s : State, s.wasReset = true → readByte s s.pc ∉ invalidOpcodes → ∃ t, step s = .next t

/-- 60_exceptions.md R282, R283, R284 and 70_reset_and_hazards.md R331: every instruction completes, whatever the state: the resolver's two
faults are unreachable with the table, and that InvalidAddress is unreachable is decision D27 with D3 and D4 (log entry 5). -/
def Obligations.EveryInstructionCompletes : Prop :=
  ∀ (i : Instr) (s : State), ∃ t, exec i s = .next t

/-! ### Reset and the invariant -/

/-- 70_reset_and_hazards.md R310: the register and flag values after Reset (10_state.md R50), P packed from them, zeroes above the first
8 KB and the pattern's 0xFF below but for its sixteen cleared cells, and no dependence on any earlier state. -/
def Obligations.ResetRegisters : Prop :=
  ∀ s : State,
    let r := resetEvent s
    (∀ before, resetEvent before = r) ∧ (∀ addr : Word, 0x2000 ≤ addr.toNat → readByte r addr = 0x00) ∧
      (∀ addr : Word, addr.toNat < 0x2000 → addr ∉ clearedCells → readByte r addr = 0xFF) ∧
    r.a = 0x00 ∧ r.x = 0x00 ∧ r.y = 0x00 ∧ stackAddr r.sp = 0x01FF ∧ r.pc = 0x07FF ∧ r.flagC = false ∧ r.flagZ = true ∧
      r.flagI = true ∧ r.flagD = false ∧ r.flagB = true ∧ r.flagV = false ∧ r.flagN = false ∧ packP r = 0x36

/-- 70_reset_and_hazards.md R311, with the sixteen addresses written out. That a cleared cell holds 0x00 is the spec's decision D19
(log entry 4). -/
def Obligations.ResetMemoryPattern : Prop :=
  ∀ (s : State) (addr : Word), readByte (resetEvent s) addr =
    if 0x2000 ≤ addr.toNat then 0x00 else if addr ∈ clearedCells then 0x00 else 0xFF

/-- 70_reset_and_hazards.md R314: with nothing loaded, the first step after Reset faults on 0xFF with PC at 0x0800. -/
def Obligations.FirstStepAfterResetFaults : Prop :=
  ∃ t, step State.reset = .fault (.invalidOpcode 0xFF t) ∧ t.pc = 0x0800

/-- The invariant holds at reset. The 0 of
the counters and the cycle result is the model's choice (log entries 2, 3). -/
def Obligations.ResetMeetsInvariant : Prop := State.reset.Inv

/-- Every step that answers a next state keeps the invariant (20_memory.md R60, R62; 70_reset_and_hazards.md R320, R321). The bounds on
the cycle result rest on the base counts, decision D15 (log entry 13). -/
def Obligations.StepKeepsInvariant : Prop :=
  ∀ s t : State, s.Inv → step s = .next t → t.Inv

/-! ### Flags, P and the stack -/

/-- 10_state.md R35: a set or clear primitive changes its own flag, leaves every other flag, and every bit of P but its own; nothing
but flags changes. -/
def Obligations.FlagPrimitivesTouchOneBit : Prop :=
  ∀ (f : Flag) (s : State),
    (setFlag f s).flag f = true ∧ (clearFlag f s).flag f = false ∧
    (∀ g, g ≠ f → (setFlag f s).flag g = s.flag g ∧ (clearFlag f s).flag g = s.flag g) ∧
    packP (setFlag f s) = packP s ||| ((1 : Byte) <<< f.bit) ∧
    packP (clearFlag f s) = packP s &&& ~~~((1 : Byte) <<< f.bit) ∧
    writeFlag f (s.flag f) (setFlag f s) = s ∧ writeFlag f (s.flag f) (clearFlag f s) = s

/-- 10_state.md R33: P is `(N<<7) | (V<<6) | (1<<5) | (B<<4) | (D<<3) | (I<<2) | (Z<<1) | C`. -/
def Obligations.PackedStatusLayout : Prop :=
  ∀ s : State, (packP s).toNat =
    2 ^ 7 * s.flagN.toNat + 2 ^ 6 * s.flagV.toNat + 2 ^ 5 + 2 ^ 4 * s.flagB.toNat + 2 ^ 3 * s.flagD.toNat +
      2 ^ 2 * s.flagI.toNat + 2 * s.flagZ.toNat + s.flagC.toNat

/-- 10_state.md R34: writing P sets every flag from its bit and nothing else; it then reads back with bit 5 set (the spec's decision D11,
log entry 16), and writing back what P reads changes nothing. -/
def Obligations.UnpackedStatus : Prop :=
  ∀ (v : Byte) (s : State),
    (∀ f : Flag, (unpackP v s).flag f = v.getLsbD f.bit) ∧
    packP (unpackP v s) = v ||| 0x20 ∧ unpackP (packP s) s = s ∧
    unpackP v s = { s with flagC := v.getLsbD 0, flagZ := v.getLsbD 1, flagI := v.getLsbD 2, flagD := v.getLsbD 3,
                           flagB := v.getLsbD 4, flagV := v.getLsbD 6, flagN := v.getLsbD 7 }

/-- 10_state.md R36, R37: the check primitives on an integer that may be negative or above 0xFF. -/
def Obligations.CheckPrimitives : Prop :=
  ∀ (v : Int) (s : State),
    checkCarry v s = { s with flagC := decide (0xFF < v) } ∧ (v < 0 → (checkCarry v s).flagC = false) ∧
    checkZero v s = { s with flagZ := decide (v = 0) } ∧
    checkNegative v s = { s with flagN := decide (128 ≤ v % 256) } ∧
    setZN v s = checkZero v (checkNegative v s)

/-- 10_state.md R41, R42: Push stores at 0x0100 + S and then decrements S in its page; Pop increments S in its page and then loads. Every
other byte and every other register is as before. -/
def Obligations.StackPrimitives : Prop :=
  ∀ (v : Byte) (s : State),
    readByte (push v s) (BitVec.ofNat 16 (0x0100 + s.sp.toNat)) = v ∧
    (∀ b : Word, b.toNat ≠ 0x0100 + s.sp.toNat → readByte (push v s) b = readByte s b) ∧
    (push v s).sp.toNat = (s.sp.toNat + 255) % 256 ∧
    push v s = { s with sp := (push v s).sp, mem := (push v s).mem } ∧
    (pop s).2.sp.toNat = (s.sp.toNat + 1) % 256 ∧
    (pop s).1 = readByte s (BitVec.ofNat 16 (0x0100 + (s.sp.toNat + 1) % 256)) ∧
    (pop s).2 = { s with sp := (pop s).2.sp }

/-- 10_state.md R41 to R43: what was pushed last is peeked and popped first, and the stack pointer is back. That Peek wraps as Pop does at
S = 0xFF is the spec's decision D26 (log entry 26). -/
def Obligations.PopReturnsPushed : Prop :=
  ∀ (v w : Byte) (s : State),
    (pop (push v s)).1 = v ∧ (pop (push v s)).2.sp = s.sp ∧ peek (push v s) = v ∧ peek s = (pop s).1 ∧
    (pop (push w (push v s))).1 = w ∧ (pop (pop (push w (push v s))).2).1 = v ∧
    (pop (pop (push w (push v s))).2).2.sp = s.sp

/-! ### The resolver -/

/-- 40_addressing_modes.md R120, R122: called with mode implicit the resolver raises ImplicitModeRead in the state it was called in;
with any other it advances PC by the mode's operand bytes and writes no other register, no flag and no memory, and no counter but
`mem_cycles`. -/
def Obligations.ResolverContract : Prop :=
  ∀ (o : Operand) (s : State),
    (o = .implicit → resolve o s = .error (.implicitModeRead s)) ∧
    (o ≠ .implicit → ∃ t, resolve o s = .ok t ∧ t.pc = s.pc + BitVec.ofNat 16 o.mode.operandBytes ∧
      t = { s with pc := t.pc, memCycles := t.memCycles })

/-- 40_addressing_modes.md R125, R126, R127: the three zero-page modes. PC advances by one, no cycle is added, and the address stays in
page 0; zero-page-Y is used by LDX and STX only. -/
def Obligations.ZeroPageModes : Prop :=
  (∀ (b : Byte) (s : State),
    operandAddr (.zeroPage b) s = some (BitVec.ofNat 16 b.toNat) ∧
    operandAddr (.zeroPageX b) s = some (BitVec.ofNat 16 ((b.toNat + s.x.toNat) % 256)) ∧
    operandAddr (.zeroPageY b) s = some (BitVec.ofNat 16 ((b.toNat + s.y.toNat) % 256)) ∧
    resolve (.zeroPage b) s = .ok { s with pc := s.pc + 1 } ∧
    resolve (.zeroPageX b) s = .ok { s with pc := s.pc + 1 } ∧
    resolve (.zeroPageY b) s = .ok { s with pc := s.pc + 1 }) ∧
  (∀ i : Instr, i.mode = .zeroPageY → i.operation = .ldx ∨ i.operation = .stx)

/-- 40_addressing_modes.md R128, R129, R130: the three absolute modes. An index adds modulo 65536 (decision D4) and one cycle when the high
byte changes. -/
def Obligations.AbsoluteModes : Prop :=
  ∀ (w : Word) (s : State),
    operandAddr (.absolute w) s = some w ∧ resolve (.absolute w) s = .ok { s with pc := s.pc + 2 } ∧
    (∃ x, operandAddr (.absoluteX w) s = some x ∧ x.toNat = (w.toNat + s.x.toNat) % 65536 ∧
      resolve (.absoluteX w) s = .ok { s with pc := s.pc + 2, memCycles := s.memCycles + if x.toNat / 256 = w.toNat / 256 then 0 else 1 }) ∧
    (∃ y, operandAddr (.absoluteY w) s = some y ∧ y.toNat = (w.toNat + s.y.toNat) % 65536 ∧
      resolve (.absoluteY w) s = .ok { s with pc := s.pc + 2, memCycles := s.memCycles + if y.toNat / 256 = w.toNat / 256 then 0 else 1 })

/-- 40_addressing_modes.md R132, R133, R134: the three pointer modes, with the wrap of the second pointer byte that decisions D5 and D6
take (log entries 9, 10) and no page-cross cycle (decision D16, log entry 14). -/
def Obligations.PointerModes : Prop :=
  (∀ (b : Byte) (s : State),
    (let p := (b.toNat + s.x.toNat) % 256
     ∃ addr, operandAddr (.indexedIndirect b) s = some addr ∧
       addr.toNat = (readByte s (BitVec.ofNat 16 ((p + 1) % 256))).toNat * 256 + (readByte s (BitVec.ofNat 16 p)).toNat) ∧
    (∃ addr, operandAddr (.indirectIndexed b) s = some addr ∧
       addr.toNat = ((readByte s (BitVec.ofNat 16 ((b.toNat + 1) % 256))).toNat * 256 +
         (readByte s (BitVec.ofNat 16 b.toNat)).toNat + s.y.toNat) % 65536) ∧
    resolve (.indexedIndirect b) s = .ok { s with pc := s.pc + 1 } ∧
    resolve (.indirectIndexed b) s = .ok { s with pc := s.pc + 1 }) ∧
  (∀ (w : Word) (s : State),
    (∃ addr, operandAddr (.indirectAbsolute w) s = some addr ∧
       addr.toNat = (readByte s (BitVec.ofNat 16 ((w.toNat + 1) % 65536))).toNat * 256 + (readByte s w).toNat) ∧
    resolve (.indirectAbsolute w) s = .ok { s with pc := s.pc + 2 })

/-! ### Arithmetic, logic, compares -/

/-- 41_arithmetic.md R150: ADC in all its modes, whatever D holds; V by the XOR form of 10_state.md R38. "Sign" as bit 7: decision D23 (log entry 15). -/
def Obligations.AdcAddsWithCarry : Prop :=
  ∀ (i : Instr) (s : State), i.operation = .adc →
    ∃ m, operandValue i.operand s = some m ∧
      let r := s.a.toNat + m.toNat + s.flagC.toNat
      exec i s = .next { ranPast i s with
        a := BitVec.ofNat 8 r
        flagC := decide (0xFF < r)
        flagZ := decide (r % 256 = 0)
        flagN := decide (128 ≤ r % 256)
        flagV := (~~~(s.a ^^^ m) &&& (s.a ^^^ BitVec.ofNat 8 r)).getLsbD 7 }

/-- 41_arithmetic.md R151: SBC in all its modes subtracts the borrow too and ALWAYS clears C (the rule's own inference from the range of the
difference); V by the XOR form of 10_state.md R39. "Sign" as bit 7: decision D23 (log entry 15). -/
def Obligations.SbcSubtractsAndClearsCarry : Prop :=
  ∀ (i : Instr) (s : State), i.operation = .sbc →
    ∃ m, operandValue i.operand s = some m ∧
      let r : Int := s.a.toNat - m.toNat - (1 - s.flagC.toNat)
      exec i s = .next { ranPast i s with
        a := BitVec.ofInt 8 r
        flagC := false
        flagZ := decide (r % 256 = 0)
        flagN := decide (128 ≤ r % 256)
        flagV := ((s.a ^^^ m) &&& (s.a ^^^ BitVec.ofInt 8 r)).getLsbD 7 }

/-- 42_logical.md R160, R161, R162: AND, ORA, EOR in all their modes. -/
def Obligations.LogicalCombinesIntoA : Prop :=
  ∀ (i : Instr) (s : State) (f : Byte → Byte → Byte),
    (i.operation = .and ∧ f = (· &&& ·)) ∨ (i.operation = .ora ∧ f = (· ||| ·)) ∨ (i.operation = .eor ∧ f = (· ^^^ ·)) →
    ∃ m, operandValue i.operand s = some m ∧
      exec i s = .next (checked (f s.a m) { ranPast i s with a := f s.a m })

/-- 42_logical.md R163: BIT takes Z from `A & M`, N and V from bits 7 and 6 of M, and writes nothing else. -/
def Obligations.BitTestsMemory : Prop :=
  ∀ (i : Instr) (s : State), i.operation = .bit →
    ∃ m, operandValue i.operand s = some m ∧
      exec i s = .next { ranPast i s with
        flagZ := decide (s.a &&& m = 0), flagN := m.getLsbD 7, flagV := m.getLsbD 6 }

/-- 44_compare.md R180: CMP, CPX, CPY in all their modes: C, Z and N of the unmasked difference; no register but PC, no other flag and no
memory is written. -/
def Obligations.CompareFlags : Prop :=
  ∀ (i : Instr) (s : State) (reg : Byte), comparedRegister s i.operation = some reg →
    ∃ m t, operandValue i.operand s = some m ∧ exec i s = .next t ∧
      let r : Int := reg.toNat - m.toNat
      t = { s with
        flagC := decide (0 ≤ r), flagZ := decide (r = 0), flagN := decide (128 ≤ r % 256),
        pc := t.pc, memCycles := t.memCycles, extraCycles := t.extraCycles, cycles := t.cycles }

/-! ### Shifts and rotates -/

/-- 43_shift_rotate.md R170, R174: ASL. Z and N are of the masked result, the spec's decision D12 (log entry 11). -/
def Obligations.AslShiftsLeft : Prop := ShiftDoes .asl (fun v _ => v <<< 1) (fun v => v.getLsbD 7)

/-- 43_shift_rotate.md R171, R174: LSR (Z and N: decision D12, log entry 11). -/
def Obligations.LsrShiftsRight : Prop := ShiftDoes .lsr (fun v _ => v >>> 1) (fun v => v.getLsbD 0)

/-- 43_shift_rotate.md R172, R174: ROL; bit 0 receives the carry before (Z and N: decision D12, log entry 11). -/
def Obligations.RolRotatesLeft : Prop :=
  ShiftDoes .rol (fun v c => (v <<< 1) ||| (if c then 0x01 else 0x00)) (fun v => v.getLsbD 7)

/-- 43_shift_rotate.md R173, R174: ROR; bit 7 receives the carry before (Z and N: decision D12, log entry 11). -/
def Obligations.RorRotatesRight : Prop :=
  ShiftDoes .ror (fun v c => (v >>> 1) ||| (if c then 0x80 else 0x00)) (fun v => v.getLsbD 0)

/-! ### Increments and decrements -/

/-- 45_inc_dec.md R190, R191: INC and DEC in all their modes rewrite one cell; C is as before. -/
def Obligations.IncDecRewriteCell : Prop :=
  ∀ (i : Instr) (s : State) (d : Nat), (i.operation = .inc ∧ d = 1) ∨ (i.operation = .dec ∧ d = 255) →
    ∃ addr t, operandAddr i.operand s = some addr ∧ exec i s = .next t ∧
      CellRewritten i s t addr (BitVec.ofNat 8 ((readByte s addr).toNat + d)) s.flagC

/-- 45_inc_dec.md R192 to R195: INX, INY, DEX, DEY wrap modulo 256 and write Z and N and no other flag. -/
def Obligations.IndexIncrementDecrement : Prop :=
  ∀ s : State,
    (let r := BitVec.ofNat 8 (s.x.toNat + 1); exec .inx s = .next (checked r { ranPast .inx s with x := r })) ∧
    (let r := BitVec.ofNat 8 (s.y.toNat + 1); exec .iny s = .next (checked r { ranPast .iny s with y := r })) ∧
    (let r := BitVec.ofNat 8 (s.x.toNat + 255); exec .dex s = .next (checked r { ranPast .dex s with x := r })) ∧
    (let r := BitVec.ofNat 8 (s.y.toNat + 255); exec .dey s = .next (checked r { ranPast .dey s with y := r }))

/-! ### Control flow -/

/-- 46_branch.md R200 (with R131's formula in it): the eight branches, taken and not taken: PC, both penalty counters, the cycle result 2,
3 or 4, and nothing else. Sign and magnitude, and PC set to the target: decision D7, conflicts C2 and C3 (log entry 6). -/
def Obligations.BranchFrame : Prop :=
  ∀ (i : Instr) (s : State) (b : Byte), i.operand = .relative b →
    ∃ cond, branchCondition s i.operation = some cond ∧ i.length = 2 ∧ baseCycles i = 2 ∧
      let next := s.pc + 2
      let target : Word := BitVec.ofInt 16
        (if b.toNat < 0x80 then (next.toNat : Int) + b.toNat else (next.toNat : Int) - ((b.toNat : Int) - 0x80))
      exec i s = .next (
        if cond then
          { s with
            pc := target, memCycles := 0,
            extraCycles := if hiByte next = hiByte target then 1 else 2,
            cycles := if hiByte next = hiByte target then 3 else 4 }
        else { s with pc := next, memCycles := 0, extraCycles := 0, cycles := 2 })

/-- 47_control_flow.md R215: JMP absolute and indirect write PC and nothing else but the cycle fields; the indirect pointer's high byte is at
`ptr + 1` modulo 65536 (decision D6, log entry 10). -/
def Obligations.JmpWritesPc : Prop :=
  ∀ (w : Word) (s : State),
    exec (.jmpAbsolute w) s = .next { ranPast (.jmpAbsolute w) s with pc := w } ∧
    exec (.jmpIndirectAbsolute w) s = .next { ranPast (.jmpIndirectAbsolute w) s with
      pc := BitVec.ofNat 16 ((readByte s (w + 1)).toNat * 256 + (readByte s w).toNat) }

/-- 47_control_flow.md R216: JSR pushes the address of the next instruction itself, high byte at the higher stack address. -/
def Obligations.JsrPushesNextAddress : Prop :=
  ∀ (w : Word) (s : State), ∃ t, exec (.jsr w) s = .next t ∧
    readByte t (stackAddr s.sp) = hiByte (s.pc + 3) ∧ readByte t (stackAddr (s.sp - 1)) = loByte (s.pc + 3) ∧
    (∀ b, b ≠ stackAddr s.sp → b ≠ stackAddr (s.sp - 1) → readByte t b = readByte s b) ∧
    t = { ranPast (.jsr w) s with pc := w, sp := s.sp - 2, mem := t.mem }

/-- 47_control_flow.md R217: RTS jumps to exactly the popped address and writes no flag and no memory. -/
def Obligations.RtsPopsPc : Prop :=
  ∀ s : State, exec .rts s = .next { ranPast .rts s with
    pc := BitVec.ofNat 16 ((readByte s (stackAddr (s.sp + 2))).toNat * 256 + (readByte s (stackAddr (s.sp + 1))).toNat)
    sp := s.sp + 2 }

/-- 47_control_flow.md R219 and 60_exceptions.md R292: BRK saves PC + 2 and P (B as it was), sets B, leaves I and the other flags, and goes
where the vector at 0xFFFE/0xFFFF says. The address + 2, the vector's byte order and the untouched I are decisions D8, D9, D10 (log
entries 8, 17, 18). -/
def Obligations.BrkTrapEntry : Prop :=
  ∀ s : State, ∃ t, exec .brk s = .next t ∧
    readByte t (stackAddr s.sp) = hiByte (s.pc + 2) ∧ readByte t (stackAddr (s.sp - 1)) = loByte (s.pc + 2) ∧
    readByte t (stackAddr (s.sp - 2)) = packP s ∧
    (∀ b, b ≠ stackAddr s.sp → b ≠ stackAddr (s.sp - 1) → b ≠ stackAddr (s.sp - 2) → readByte t b = readByte s b) ∧
    t = { ranPast .brk s with
      pc := BitVec.ofNat 16 ((readByte s 0xFFFF).toNat * 256 + (readByte s 0xFFFE).toNat)
      sp := s.sp - 3, flagB := true, mem := t.mem }

/-- 47_control_flow.md R220 and 60_exceptions.md R293: RTI pops P, all seven flags, before PC, and adds nothing. -/
def Obligations.RtiPopsStatusThenPc : Prop :=
  ∀ s : State,
    let p := readByte s (stackAddr (s.sp + 1))
    exec .rti s = .next { ranPast .rti s with
      flagC := p.getLsbD 0, flagZ := p.getLsbD 1, flagI := p.getLsbD 2, flagD := p.getLsbD 3, flagB := p.getLsbD 4,
      flagV := p.getLsbD 6, flagN := p.getLsbD 7
      pc := BitVec.ofNat 16 ((readByte s (stackAddr (s.sp + 3))).toNat * 256 + (readByte s (stackAddr (s.sp + 2))).toNat)
      sp := s.sp + 3 }

/-- 47_control_flow.md R216, R217: JSR and RTS agree: RTS right after JSR is back at the next instruction, S and every register and flag as
before. -/
def Obligations.RtsUndoesJsr : Prop :=
  ∀ (w : Word) (s : State), ∃ t u, exec (.jsr w) s = .next t ∧ exec .rts t = .next u ∧
    u = { s with
      pc := s.pc + 3, mem := t.mem, memCycles := u.memCycles, extraCycles := u.extraCycles, cycles := u.cycles }

/-- 47_control_flow.md R219, R220: RTI right after BRK is two bytes past the BRK, with P (B too), S and every register as before (the two
bytes: decision D8, log entry 8). -/
def Obligations.RtiUndoesBrk : Prop :=
  ∀ s : State, ∃ t u, exec .brk s = .next t ∧ exec .rti t = .next u ∧
    u = { s with
      pc := s.pc + 2, mem := t.mem, memCycles := u.memCycles, extraCycles := u.extraCycles, cycles := u.cycles }

/-! ### Stack, transfers, flag instructions -/

/-- 48_stack_transfer_flag.md R230, R231: PHA and PHP push A and P, and change S and one stack byte. -/
def Obligations.PushInstructions : Prop :=
  ∀ (i : Instr) (s : State) (v : Byte), (i = .pha ∧ v = s.a) ∨ (i = .php ∧ v = packP s) →
    ∃ t, exec i s = .next t ∧ readByte t (stackAddr s.sp) = v ∧
      (∀ b, b ≠ stackAddr s.sp → readByte t b = readByte s b) ∧
      t = { ranPast i s with sp := s.sp - 1, mem := t.mem }

/-- 48_stack_transfer_flag.md R232, R233: PLA pulls A with the zero/negative check; PLP pulls all seven flags, bit 5 ignored. Bit 5: decision D11 (log
entry 16). -/
def Obligations.PullInstructions : Prop :=
  ∀ s : State,
    let v := readByte s (stackAddr (s.sp + 1))
    exec .pla s = .next (checked v { ranPast .pla s with a := v, sp := s.sp + 1 }) ∧
    ∃ t, exec .plp s = .next t ∧ packP t = v ||| 0x20 ∧
      t = { ranPast .plp s with
        sp := s.sp + 1, flagC := t.flagC, flagZ := t.flagZ, flagI := t.flagI, flagD := t.flagD, flagB := t.flagB,
        flagV := t.flagV, flagN := t.flagN }

/-- 48_stack_transfer_flag.md R231, R233: PLP right after PHP leaves every flag, S and every register as before. -/
def Obligations.PlpUndoesPhp : Prop :=
  ∀ s : State, ∃ t u, exec .php s = .next t ∧ exec .plp t = .next u ∧
    u = { s with pc := s.pc + 2, mem := t.mem, memCycles := u.memCycles, extraCycles := u.extraCycles, cycles := u.cycles }

/-- 48_stack_transfer_flag.md R234 to R239: the six transfers; TXS alone writes no flag. That TSX reads and TXS writes the 8-bit S is
decision D2 (log entry 7). -/
def Obligations.RegisterTransfers : Prop :=
  ∀ s : State,
    exec .tax s = .next (checked s.a { ranPast .tax s with x := s.a }) ∧
    exec .tay s = .next (checked s.a { ranPast .tay s with y := s.a }) ∧
    exec .txa s = .next (checked s.x { ranPast .txa s with a := s.x }) ∧
    exec .tya s = .next (checked s.y { ranPast .tya s with a := s.y }) ∧
    exec .tsx s = .next (checked s.sp { ranPast .tsx s with x := s.sp }) ∧
    exec .txs s = .next { ranPast .txs s with sp := s.x }

/-- 48_stack_transfer_flag.md R240 to R247: each flag instruction writes its one flag, and NOP none; no register, no other flag and no memory
cell changes, PC advances by one and the step takes 2 cycles. The 2 cycles: decision D15 (log entry 13). -/
def Obligations.FlagInstructionsAndNop : Prop :=
  (∀ (i : Instr) (s : State) (f : Flag) (v : Bool), flagWritten i.operation = some (f, v) →
    ∃ t, exec i s = .next t ∧ t.flag f = v ∧ (∀ g, g ≠ f → t.flag g = s.flag g) ∧
      writeFlag f (s.flag f) t = { s with pc := s.pc + 1, memCycles := 0, extraCycles := 0, cycles := 2 }) ∧
  (∀ s : State, exec .nop s = .next { s with pc := s.pc + 1, memCycles := 0, extraCycles := 0, cycles := 2 })

/-! ### Loads and stores (the spec's decision D13, log entry 20) -/

/-- 49_load_store.md R270, R271, R272: LDA, LDX, LDY in all their modes. -/
def Obligations.LoadsWriteRegister : Prop :=
  ∀ (i : Instr) (s : State), i.operation = .lda ∨ i.operation = .ldx ∨ i.operation = .ldy →
    ∃ v, operandValue i.operand s = some v ∧
      exec i s = .next (checked v (match i.operation with
        | .lda => { ranPast i s with a := v }
        | .ldx => { ranPast i s with x := v }
        | _ => { ranPast i s with y := v }))

/-- 49_load_store.md R273, R274, R275: STA, STX, STY in all their modes write one byte at the effective address, and no flag and no register
but PC. -/
def Obligations.StoresWriteOneByte : Prop :=
  ∀ (i : Instr) (s : State) (v : Byte), storedRegister s i.operation = some v →
    ∃ addr t, operandAddr i.operand s = some addr ∧ exec i s = .next t ∧ readByte t addr = v ∧
      (∀ b, b ≠ addr → readByte t b = readByte s b) ∧ t = { ranPast i s with mem := t.mem }

/-- 20_memory.md R73: a store to the next instruction's address is what the next step fetches. STA is decision D13
(log entry 20). -/
def Obligations.StoreIsFetchedNext : Prop :=
  ∀ (s : State) (i : Instr), s.wasReset = true → decodeBytes s.a (readByte s (s.pc + 4)) (readByte s (s.pc + 5)) = some i →
    ∃ t, exec (.staAbsolute (s.pc + 3)) s = .next t ∧ t.pc = s.pc + 3 ∧ step t = exec i t

/-! ### Whole-machine rules -/

/-- 10_state.md R21: A is written only by its writers, each of which leaves Z and N of the A it wrote, and read only by its readers: for any
other instruction another value of A changes nothing but A itself. -/
def Obligations.AccumulatorAccess : Prop :=
  (∀ (i : Instr) (s t : State), exec i s = .next t →
    (writesA i = false → t.a = s.a) ∧
    (writesA i = true → t.flagZ = decide (t.a = 0) ∧ t.flagN = t.a.getLsbD 7)) ∧
  (∀ (i : Instr) (s : State) (v : Byte), readsA i = false →
    ∃ t, exec i s = .next t ∧ exec i { s with a := v } = .next (if writesA i then t else { t with a := v }))

/-- 10_state.md R22: the same of X and Y, with the addressing modes among the readers. -/
def Obligations.IndexRegisterAccess : Prop :=
  (∀ (i : Instr) (s t : State), exec i s = .next t →
    (writesX i = false → t.x = s.x) ∧
    (writesX i = true → t.flagZ = decide (t.x = 0) ∧ t.flagN = t.x.getLsbD 7) ∧
    (writesY i = false → t.y = s.y) ∧
    (writesY i = true → t.flagZ = decide (t.y = 0) ∧ t.flagN = t.y.getLsbD 7)) ∧
  (∀ (i : Instr) (s : State) (v : Byte), readsX i = false →
    ∃ t, exec i s = .next t ∧ exec i { s with x := v } = .next (if writesX i then t else { t with x := v })) ∧
  (∀ (i : Instr) (s : State) (v : Byte), readsY i = false →
    ∃ t, exec i s = .next t ∧ exec i { s with y := v } = .next (if writesY i then t else { t with y := v }))

/-- 10_state.md R23: S is written by TXS and by pushes and pops only, and read by TSX and by pushes and pops only (S the low byte of the
source's SP: decision D2, log entry 7). -/
def Obligations.StackPointerAccess : Prop :=
  (∀ (i : Instr) (s t : State), exec i s = .next t → i.operation ≠ .txs → usesStack i = false → t.sp = s.sp) ∧
  (∀ (i : Instr) (s : State) (v : Byte), i.operation ≠ .tsx → usesStack i = false →
    ∃ t, exec i s = .next t ∧
      exec i { s with sp := v } = .next (if i.operation = .txs then t else { t with sp := v }))

/-- 10_state.md R31: each flag is written only by its writers and read only by its readers: for any other instruction another value of the
flag changes nothing but that flag. So I gates nothing, and D is inert (41_arithmetic.md R153): only PHP and BRK read them. That BRK
leaves I: decision D10 (log entry 18). -/
def Obligations.FlagAccess : Prop :=
  (∀ (i : Instr) (s t : State) (f : Flag), exec i s = .next t → writesFlag f i = false → t.flag f = s.flag f) ∧
  (∀ (i : Instr) (s : State) (f : Flag) (v : Bool), readsFlag f i = false →
    ∃ t, exec i s = .next t ∧
      exec i (writeFlag f v s) = .next (if writesFlag f i then t else writeFlag f v t))

/-- 10_state.md R31 (row B), 47_control_flow.md R219, 48_stack_transfer_flag.md section 3: no instruction but PLP and RTI clears B, none but
ADC, SBC, BIT, PLP and RTI can set V, and BRK changes no flag but B. That BRK leaves I: decision D10 (log entry 18). -/
def Obligations.BreakAndOverflowChange : Prop :=
  ∀ (i : Instr) (s t : State), exec i s = .next t →
    (i.operation ≠ .plp → i.operation ≠ .rti → s.flagB = true → t.flagB = true) ∧
    (i.operation ∉ [.adc, .sbc, .bit, .plp, .rti] → s.flagV = false → t.flagV = false) ∧
    (i.operation = .brk → ∀ f : Flag, f ≠ .b → t.flag f = s.flag f)

/-- 20_memory.md R61, R66, R67; 10_state.md R41: every instruction leaves every byte it does not store to: stores and memory
read-modify-writes reach their effective address, pushes the stack slots, and nothing else writes memory. -/
def Obligations.MemoryFrame : Prop :=
  ∀ (i : Instr) (s t : State), exec i s = .next t →
    ∀ b : Word, b ∉ storedAddrs i s → readByte t b = readByte s b

/-- 10_state.md R24, R25: every instruction but the branches, JMP, JSR, RTS, BRK and RTI leaves PC at the next sequential instruction (the
wrap modulo 65536: decision D3, log entry 5). -/
def Obligations.SequentialPc : Prop :=
  ∀ (i : Instr) (s t : State), exec i s = .next t → writesPc i = false →
    t.pc.toNat = (s.pc.toNat + i.length) % 65536

/-- 70_reset_and_hazards.md R320, R321: the cycle result is base + mem + extra, from counters that started at zero, and is 2 to 8; the counters
of the step before change nothing (30_encoding.md R101). The base counts: decision D15 (log entry 13). -/
def Obligations.CycleResult : Prop :=
  ∀ (i : Instr) (s : State), ∃ t, exec i s = .next t ∧
    t.cycles = baseCycles i + t.memCycles + t.extraCycles ∧ t.memCycles ≤ 1 ∧ t.extraCycles ≤ 2 ∧ 2 ≤ t.cycles ∧ t.cycles ≤ 8 ∧
    ∀ m e c, exec i { s with memCycles := m, extraCycles := e, cycles := c } = .next t

/-- 70_reset_and_hazards.md R323, R324, R325: `mem_cycles` is 1 exactly when an absolute-X or absolute-Y sum changes the high byte, for every
operation, stores and read-modify-writes too; `extra_cycles` is 0 for every instruction but a branch. That indirect-indexed adds no cycle: decision
D16 (log entry 14). -/
def Obligations.PenaltyCycles : Prop :=
  ∀ (i : Instr) (s t : State), exec i s = .next t →
    (t.memCycles = 1 ↔ ∃ w x, indexedBase s i.operand = some (w, x) ∧
      (w.toNat + x.toNat) % 65536 / 256 ≠ w.toNat / 256) ∧
    (i.mode ≠ .relative → t.extraCycles = 0)

/-! ### The memory interface -/

/-- 20_memory.md R60, R61, R62: the host's fetch and store succeed exactly on 0 to 65535; a fetch after a store gives the byte stored, and every
other address as before. That the host's accesses are operations of their own (log entry 21) and that the fault carries the unchanged
state (log entry 1) is the model's choice. -/
def Obligations.PlatformInterface : Prop :=
  (∀ (address : Int) (v : Byte) (s : State), 0 ≤ address ∧ address < 65536 →
    (∃ b, platformFetch address s = .ok b) ∧
    ∃ t, platformStore address v s = .ok t ∧ platformFetch address t = .ok v ∧ t = { s with mem := t.mem } ∧
      ∀ other, other ≠ address → 0 ≤ other ∧ other < 65536 → platformFetch other t = platformFetch other s) ∧
  (∀ (address : Int) (v : Byte) (s : State), ¬ (0 ≤ address ∧ address < 65536) →
    platformFetch address s = .error (.invalidAddress address s) ∧
    platformStore address v s = .error (.invalidAddress address s))

/-! ### Before the first Reset -/

/-- 70_reset_and_hazards.md R313 step 1 and 93_implementation_defined.md U8: a step before the first `Reset` is refused; `Reset` alone ends that
time, whatever else an instruction or the host does. The field that holds it is the model's own (log entry 24). -/
def Obligations.StepBeforeResetRefused : Prop :=
  (∀ s : State, s.wasReset = false → step s = .refused .beforeReset) ∧
  (∀ s : State, (resetEvent s).wasReset = true) ∧
  (∀ (i : Instr) (s t : State), exec i s = .next t → t.wasReset = s.wasReset) ∧
  (∀ (address : Int) (v : Byte) (s t : State), platformStore address v s = .ok t → t.wasReset = s.wasReset) ∧
  (∀ (w : Word) (s : State), (hostSetPc w s).wasReset = s.wasReset)
end

