-- ==== Sys2Proof/Laws/Decode.lean ====
section
/-! SUPPORT. The laws of the opcode table: no byte names two slots (30_encoding.md R93), so a lookup finds exactly the rows that
are listed. -/

namespace Sys2Proof

/-- No opcode byte is listed twice. -/
theorem opcodeTable_distinct : (opcodeTable.map Slot.opcode).Nodup := by decide +kernel

/-- What a lookup finds is a row of the list for that byte. -/
theorem findSlot_mem {op : Byte} {rows : List Slot} {f : Form} (h : findSlot op rows = some f) :
    (⟨op, f⟩ : Slot) ∈ rows := by
  induction rows with
  | nil => simp [findSlot] at h
  | cons r rest ih =>
    simp only [findSlot] at h
    split at h
    · next hr => simp at h; subst hr; subst h; simp
    · exact List.mem_cons_of_mem _ (ih h)

/-- Every row of a list without repeated opcodes is what a lookup of its opcode finds. -/
theorem findSlot_of_mem {rows : List Slot} (hd : (rows.map Slot.opcode).Nodup) {r : Slot} (h : r ∈ rows) :
    findSlot r.opcode rows = some r.form := by
  induction rows with
  | nil => simp at h
  | cons q rest ih =>
    obtain ⟨hq, hd⟩ := List.nodup_cons.1 hd
    rcases List.mem_cons.1 h with rfl | h
    · simp [findSlot]
    · have hne : q.opcode ≠ r.opcode := fun e => hq (e ▸ List.mem_map_of_mem h)
      simp only [findSlot, if_neg hne, ih hd h]

/-- The opcode table's lookup answers a form exactly for the rows it lists. -/
theorem lookup_eq_some {op : Byte} {f : Form} : lookup op = some f ↔ (⟨op, f⟩ : Slot) ∈ opcodeTable :=
  ⟨findSlot_mem, findSlot_of_mem opcodeTable_distinct⟩

end Sys2Proof
end

