-- ==== Sys2Proof/Laws/Memory.lean ====
section
/-! SUPPORT. The laws of the memory (20_memory.md R60, R61): a read after a write, and that every memory operation keeps the
canonical form. -/

namespace Sys2Proof.Machine

@[simp] theorem Memory.read_nil (a : Nat) : Memory.read [] a = powerUpByte a := rfl

theorem Memory.read_remove (m : Memory) (a b : Nat) :
    Memory.read (Memory.remove m a) b = if b = a then powerUpByte b else Memory.read m b := by
  induction m with
  | nil => simp [Memory.remove, Memory.read]
  | cons p rest ih =>
    obtain ⟨k, v⟩ := p
    by_cases hk : k = a
    · subst hk
      simp only [Memory.remove, if_true, ih, Memory.read]
      by_cases hb : b = k
      · simp [hb]
      · simp [hb, Ne.symm hb]
    · simp only [Memory.remove, if_neg hk, Memory.read, ih]
      by_cases hb : k = b
      · simp [hb, hb ▸ hk]
      · simp [hb]

theorem Memory.read_insert (m : Memory) (a b : Nat) (v : Byte)
    (h : ∀ p ∈ m, p.1 ≠ a) :
    Memory.read (Memory.insert m a v) b = if b = a then v else Memory.read m b := by
  induction m with
  | nil =>
    by_cases hb : b = a
    · simp [Memory.insert, Memory.read, hb]
    · simp [Memory.insert, Memory.read, hb, Ne.symm hb]
  | cons p rest ih =>
    obtain ⟨k, u⟩ := p
    have hk : k ≠ a := h (k, u) (by simp)
    have ih := ih fun q hq => h q (by simp [hq])
    by_cases hlt : a < k
    · simp only [Memory.insert, if_pos hlt, Memory.read]
      by_cases hb : b = a
      · simp [hb]
      · simp [hb, Ne.symm hb]
    · simp only [Memory.insert, if_neg hlt, Memory.read, ih]
      by_cases hb : k = b
      · simp [hb, hb ▸ hk]
      · simp [hb]

theorem Memory.remove_ne (m : Memory) (a : Nat) : ∀ p ∈ Memory.remove m a, p.1 ≠ a := by
  induction m with
  | nil => simp [Memory.remove]
  | cons p rest ih =>
    obtain ⟨k, v⟩ := p
    by_cases hk : k = a
    · simpa [Memory.remove, hk] using ih
    · simp only [Memory.remove, if_neg hk, List.mem_cons, forall_eq_or_imp]
      exact ⟨hk, ih⟩

/-- A read after a write gives the byte written at that address, and every other address as before (R60, R61, R70). -/
theorem Memory.read_write (m : Memory) (a b : Nat) (v : Byte) :
    Memory.read (Memory.write m a v) b = if b = a then v else Memory.read m b := by
  unfold Memory.write
  split
  · next h => rw [Memory.read_remove]; split <;> simp_all
  · rw [Memory.read_insert _ _ _ _ (Memory.remove_ne m a), Memory.read_remove]
    by_cases hb : b = a <;> simp [hb]

theorem Memory.remove_sublist (m : Memory) (a : Nat) : (Memory.remove m a).Sublist m := by
  induction m with
  | nil => simp [Memory.remove]
  | cons p rest ih =>
    obtain ⟨k, v⟩ := p
    by_cases hk : k = a
    · simpa [Memory.remove, hk] using ih.trans (List.sublist_cons_self _ _)
    · simpa [Memory.remove, hk] using ih

theorem Memory.wf_remove {m : Memory} (h : Memory.wf m) (a : Nat) : Memory.wf (Memory.remove m a) :=
  ⟨h.1.sublist (Memory.remove_sublist m a), fun p hp => h.2 p ((Memory.remove_sublist m a).subset hp)⟩

theorem Memory.mem_insert (m : Memory) (a : Nat) (v : Byte) (p : Host.Cell) :
    p ∈ Memory.insert m a v ↔ p = (a, v) ∨ p ∈ m := by
  induction m with
  | nil => simp [Memory.insert]
  | cons q rest ih =>
    obtain ⟨k, u⟩ := q
    by_cases hlt : a < k
    · simp [Memory.insert, hlt]
    · simp only [Memory.insert, if_neg hlt, List.mem_cons, ih]
      tauto

theorem Memory.pairwise_insert {m : Memory} (h : m.Pairwise (fun p q => p.1 < q.1)) (a : Nat) (v : Byte)
    (hne : ∀ p ∈ m, p.1 ≠ a) : (Memory.insert m a v).Pairwise (fun p q => p.1 < q.1) := by
  induction m with
  | nil => simp [Memory.insert]
  | cons q rest ih =>
    obtain ⟨k, u⟩ := q
    obtain ⟨hhead, htail⟩ := List.pairwise_cons.1 h
    by_cases hlt : a < k
    · simp only [Memory.insert, if_pos hlt, List.pairwise_cons, List.mem_cons, forall_eq_or_imp]
      exact ⟨⟨hlt, fun p hp => lt_trans hlt (hhead p hp)⟩, hhead, htail⟩
    · have hka : k < a := lt_of_le_of_ne (not_lt.1 hlt) (hne (k, u) (by simp))
      simp only [Memory.insert, if_neg hlt, List.pairwise_cons]
      refine ⟨fun p hp => ?_, ih htail fun p hp => hne p (by simp [hp])⟩
      rcases (Memory.mem_insert rest a v p).1 hp with rfl | hp
      · exact hka
      · exact hhead p hp

/-- A write inside the address space keeps the canonical form. -/
theorem Memory.wf_write {m : Memory} (h : Memory.wf m) {a : Nat} (ha : a < memorySize) (v : Byte) :
    Memory.wf (Memory.write m a v) := by
  unfold Memory.write
  split
  · exact Memory.wf_remove h a
  · next hv =>
    have hr := Memory.wf_remove h a
    refine ⟨Memory.pairwise_insert hr.1 a v (Memory.remove_ne m a), fun p hp => ?_⟩
    rcases (Memory.mem_insert _ a v p).1 hp with rfl | hp
    · exact ⟨ha, hv⟩
    · exact hr.2 p hp

/-- Nothing listed is in canonical form: the memory of `State.reset`. -/
theorem Memory.wf_nil : Memory.wf [] := by simp [Memory.wf]

end Sys2Proof.Machine
end

