-- ==== Sys2Proof/Laws/State.lean ====
section
/-! SUPPORT. One lemma per field per update of the state, each true by unfolding, so that no later proof unfolds a record
update. -/

namespace Sys2Proof.Machine

/-- The state at the start of a step's operation: both counters zero, PC past the opcode byte (30_encoding.md R100). -/
def beginStep (s : State) : State := advancePc 1 (zeroCounters s)

@[simp] theorem writeByte_a (addr : Word) (v : Byte) (s : State) : (writeByte addr v s).a = s.a := rfl
@[simp] theorem writeByte_x (addr : Word) (v : Byte) (s : State) : (writeByte addr v s).x = s.x := rfl
@[simp] theorem writeByte_y (addr : Word) (v : Byte) (s : State) : (writeByte addr v s).y = s.y := rfl
@[simp] theorem writeByte_sp (addr : Word) (v : Byte) (s : State) : (writeByte addr v s).sp = s.sp := rfl
@[simp] theorem writeByte_pc (addr : Word) (v : Byte) (s : State) : (writeByte addr v s).pc = s.pc := rfl
@[simp] theorem writeByte_flagC (addr : Word) (v : Byte) (s : State) : (writeByte addr v s).flagC = s.flagC := rfl
@[simp] theorem writeByte_flagZ (addr : Word) (v : Byte) (s : State) : (writeByte addr v s).flagZ = s.flagZ := rfl
@[simp] theorem writeByte_flagI (addr : Word) (v : Byte) (s : State) : (writeByte addr v s).flagI = s.flagI := rfl
@[simp] theorem writeByte_flagD (addr : Word) (v : Byte) (s : State) : (writeByte addr v s).flagD = s.flagD := rfl
@[simp] theorem writeByte_flagB (addr : Word) (v : Byte) (s : State) : (writeByte addr v s).flagB = s.flagB := rfl
@[simp] theorem writeByte_flagV (addr : Word) (v : Byte) (s : State) : (writeByte addr v s).flagV = s.flagV := rfl
@[simp] theorem writeByte_flagN (addr : Word) (v : Byte) (s : State) : (writeByte addr v s).flagN = s.flagN := rfl
@[simp] theorem writeByte_mem (addr : Word) (v : Byte) (s : State) : (writeByte addr v s).mem = s.mem.write addr.toNat v := rfl
@[simp] theorem writeByte_memCycles (addr : Word) (v : Byte) (s : State) : (writeByte addr v s).memCycles = s.memCycles := rfl
@[simp] theorem writeByte_extraCycles (addr : Word) (v : Byte) (s : State) : (writeByte addr v s).extraCycles = s.extraCycles := rfl
@[simp] theorem writeByte_cycles (addr : Word) (v : Byte) (s : State) : (writeByte addr v s).cycles = s.cycles := rfl
@[simp] theorem writeByte_wasReset (addr : Word) (v : Byte) (s : State) : (writeByte addr v s).wasReset = s.wasReset := rfl

@[simp] theorem advancePc_a (n : Nat) (s : State) : (advancePc n s).a = s.a := rfl
@[simp] theorem advancePc_x (n : Nat) (s : State) : (advancePc n s).x = s.x := rfl
@[simp] theorem advancePc_y (n : Nat) (s : State) : (advancePc n s).y = s.y := rfl
@[simp] theorem advancePc_sp (n : Nat) (s : State) : (advancePc n s).sp = s.sp := rfl
@[simp] theorem advancePc_pc (n : Nat) (s : State) : (advancePc n s).pc = s.pc + BitVec.ofNat 16 n := rfl
@[simp] theorem advancePc_flagC (n : Nat) (s : State) : (advancePc n s).flagC = s.flagC := rfl
@[simp] theorem advancePc_flagZ (n : Nat) (s : State) : (advancePc n s).flagZ = s.flagZ := rfl
@[simp] theorem advancePc_flagI (n : Nat) (s : State) : (advancePc n s).flagI = s.flagI := rfl
@[simp] theorem advancePc_flagD (n : Nat) (s : State) : (advancePc n s).flagD = s.flagD := rfl
@[simp] theorem advancePc_flagB (n : Nat) (s : State) : (advancePc n s).flagB = s.flagB := rfl
@[simp] theorem advancePc_flagV (n : Nat) (s : State) : (advancePc n s).flagV = s.flagV := rfl
@[simp] theorem advancePc_flagN (n : Nat) (s : State) : (advancePc n s).flagN = s.flagN := rfl
@[simp] theorem advancePc_mem (n : Nat) (s : State) : (advancePc n s).mem = s.mem := rfl
@[simp] theorem advancePc_memCycles (n : Nat) (s : State) : (advancePc n s).memCycles = s.memCycles := rfl
@[simp] theorem advancePc_extraCycles (n : Nat) (s : State) : (advancePc n s).extraCycles = s.extraCycles := rfl
@[simp] theorem advancePc_cycles (n : Nat) (s : State) : (advancePc n s).cycles = s.cycles := rfl
@[simp] theorem advancePc_wasReset (n : Nat) (s : State) : (advancePc n s).wasReset = s.wasReset := rfl

@[simp] theorem zeroCounters_a (s : State) : (zeroCounters s).a = s.a := rfl
@[simp] theorem zeroCounters_x (s : State) : (zeroCounters s).x = s.x := rfl
@[simp] theorem zeroCounters_y (s : State) : (zeroCounters s).y = s.y := rfl
@[simp] theorem zeroCounters_sp (s : State) : (zeroCounters s).sp = s.sp := rfl
@[simp] theorem zeroCounters_pc (s : State) : (zeroCounters s).pc = s.pc := rfl
@[simp] theorem zeroCounters_flagC (s : State) : (zeroCounters s).flagC = s.flagC := rfl
@[simp] theorem zeroCounters_flagZ (s : State) : (zeroCounters s).flagZ = s.flagZ := rfl
@[simp] theorem zeroCounters_flagI (s : State) : (zeroCounters s).flagI = s.flagI := rfl
@[simp] theorem zeroCounters_flagD (s : State) : (zeroCounters s).flagD = s.flagD := rfl
@[simp] theorem zeroCounters_flagB (s : State) : (zeroCounters s).flagB = s.flagB := rfl
@[simp] theorem zeroCounters_flagV (s : State) : (zeroCounters s).flagV = s.flagV := rfl
@[simp] theorem zeroCounters_flagN (s : State) : (zeroCounters s).flagN = s.flagN := rfl
@[simp] theorem zeroCounters_mem (s : State) : (zeroCounters s).mem = s.mem := rfl
@[simp] theorem zeroCounters_memCycles (s : State) : (zeroCounters s).memCycles = 0 := rfl
@[simp] theorem zeroCounters_extraCycles (s : State) : (zeroCounters s).extraCycles = 0 := rfl
@[simp] theorem zeroCounters_cycles (s : State) : (zeroCounters s).cycles = s.cycles := rfl
@[simp] theorem zeroCounters_wasReset (s : State) : (zeroCounters s).wasReset = s.wasReset := rfl

@[simp] theorem push_a (v : Byte) (s : State) : (push v s).a = s.a := rfl
@[simp] theorem push_x (v : Byte) (s : State) : (push v s).x = s.x := rfl
@[simp] theorem push_y (v : Byte) (s : State) : (push v s).y = s.y := rfl
@[simp] theorem push_sp (v : Byte) (s : State) : (push v s).sp = s.sp - 1 := rfl
@[simp] theorem push_pc (v : Byte) (s : State) : (push v s).pc = s.pc := rfl
@[simp] theorem push_flagC (v : Byte) (s : State) : (push v s).flagC = s.flagC := rfl
@[simp] theorem push_flagZ (v : Byte) (s : State) : (push v s).flagZ = s.flagZ := rfl
@[simp] theorem push_flagI (v : Byte) (s : State) : (push v s).flagI = s.flagI := rfl
@[simp] theorem push_flagD (v : Byte) (s : State) : (push v s).flagD = s.flagD := rfl
@[simp] theorem push_flagB (v : Byte) (s : State) : (push v s).flagB = s.flagB := rfl
@[simp] theorem push_flagV (v : Byte) (s : State) : (push v s).flagV = s.flagV := rfl
@[simp] theorem push_flagN (v : Byte) (s : State) : (push v s).flagN = s.flagN := rfl
@[simp] theorem push_mem (v : Byte) (s : State) : (push v s).mem = s.mem.write (stackAddr s.sp).toNat v := rfl
@[simp] theorem push_memCycles (v : Byte) (s : State) : (push v s).memCycles = s.memCycles := rfl
@[simp] theorem push_extraCycles (v : Byte) (s : State) : (push v s).extraCycles = s.extraCycles := rfl
@[simp] theorem push_cycles (v : Byte) (s : State) : (push v s).cycles = s.cycles := rfl
@[simp] theorem push_wasReset (v : Byte) (s : State) : (push v s).wasReset = s.wasReset := rfl

@[simp] theorem pop_snd_a (s : State) : ((pop s).2).a = s.a := rfl
@[simp] theorem pop_snd_x (s : State) : ((pop s).2).x = s.x := rfl
@[simp] theorem pop_snd_y (s : State) : ((pop s).2).y = s.y := rfl
@[simp] theorem pop_snd_sp (s : State) : ((pop s).2).sp = s.sp + 1 := rfl
@[simp] theorem pop_snd_pc (s : State) : ((pop s).2).pc = s.pc := rfl
@[simp] theorem pop_snd_flagC (s : State) : ((pop s).2).flagC = s.flagC := rfl
@[simp] theorem pop_snd_flagZ (s : State) : ((pop s).2).flagZ = s.flagZ := rfl
@[simp] theorem pop_snd_flagI (s : State) : ((pop s).2).flagI = s.flagI := rfl
@[simp] theorem pop_snd_flagD (s : State) : ((pop s).2).flagD = s.flagD := rfl
@[simp] theorem pop_snd_flagB (s : State) : ((pop s).2).flagB = s.flagB := rfl
@[simp] theorem pop_snd_flagV (s : State) : ((pop s).2).flagV = s.flagV := rfl
@[simp] theorem pop_snd_flagN (s : State) : ((pop s).2).flagN = s.flagN := rfl
@[simp] theorem pop_snd_mem (s : State) : ((pop s).2).mem = s.mem := rfl
@[simp] theorem pop_snd_memCycles (s : State) : ((pop s).2).memCycles = s.memCycles := rfl
@[simp] theorem pop_snd_extraCycles (s : State) : ((pop s).2).extraCycles = s.extraCycles := rfl
@[simp] theorem pop_snd_cycles (s : State) : ((pop s).2).cycles = s.cycles := rfl
@[simp] theorem pop_snd_wasReset (s : State) : ((pop s).2).wasReset = s.wasReset := rfl

@[simp] theorem pushPc_a (s : State) : (pushPc s).a = s.a := rfl
@[simp] theorem pushPc_x (s : State) : (pushPc s).x = s.x := rfl
@[simp] theorem pushPc_y (s : State) : (pushPc s).y = s.y := rfl
@[simp] theorem pushPc_sp (s : State) : (pushPc s).sp = s.sp - 1 - 1 := rfl
@[simp] theorem pushPc_pc (s : State) : (pushPc s).pc = s.pc := rfl
@[simp] theorem pushPc_flagC (s : State) : (pushPc s).flagC = s.flagC := rfl
@[simp] theorem pushPc_flagZ (s : State) : (pushPc s).flagZ = s.flagZ := rfl
@[simp] theorem pushPc_flagI (s : State) : (pushPc s).flagI = s.flagI := rfl
@[simp] theorem pushPc_flagD (s : State) : (pushPc s).flagD = s.flagD := rfl
@[simp] theorem pushPc_flagB (s : State) : (pushPc s).flagB = s.flagB := rfl
@[simp] theorem pushPc_flagV (s : State) : (pushPc s).flagV = s.flagV := rfl
@[simp] theorem pushPc_flagN (s : State) : (pushPc s).flagN = s.flagN := rfl
@[simp] theorem pushPc_mem (s : State) : (pushPc s).mem = (s.mem.write (stackAddr s.sp).toNat (hiByte s.pc)).write (stackAddr (s.sp - 1)).toNat (loByte s.pc) := rfl
@[simp] theorem pushPc_memCycles (s : State) : (pushPc s).memCycles = s.memCycles := rfl
@[simp] theorem pushPc_extraCycles (s : State) : (pushPc s).extraCycles = s.extraCycles := rfl
@[simp] theorem pushPc_cycles (s : State) : (pushPc s).cycles = s.cycles := rfl
@[simp] theorem pushPc_wasReset (s : State) : (pushPc s).wasReset = s.wasReset := rfl

@[simp] theorem popPc_a (s : State) : (popPc s).a = s.a := rfl
@[simp] theorem popPc_x (s : State) : (popPc s).x = s.x := rfl
@[simp] theorem popPc_y (s : State) : (popPc s).y = s.y := rfl
@[simp] theorem popPc_sp (s : State) : (popPc s).sp = s.sp + 1 + 1 := rfl
@[simp] theorem popPc_pc (s : State) : (popPc s).pc = word (readByte s (stackAddr (s.sp + 1 + 1))) (readByte s (stackAddr (s.sp + 1))) := rfl
@[simp] theorem popPc_flagC (s : State) : (popPc s).flagC = s.flagC := rfl
@[simp] theorem popPc_flagZ (s : State) : (popPc s).flagZ = s.flagZ := rfl
@[simp] theorem popPc_flagI (s : State) : (popPc s).flagI = s.flagI := rfl
@[simp] theorem popPc_flagD (s : State) : (popPc s).flagD = s.flagD := rfl
@[simp] theorem popPc_flagB (s : State) : (popPc s).flagB = s.flagB := rfl
@[simp] theorem popPc_flagV (s : State) : (popPc s).flagV = s.flagV := rfl
@[simp] theorem popPc_flagN (s : State) : (popPc s).flagN = s.flagN := rfl
@[simp] theorem popPc_mem (s : State) : (popPc s).mem = s.mem := rfl
@[simp] theorem popPc_memCycles (s : State) : (popPc s).memCycles = s.memCycles := rfl
@[simp] theorem popPc_extraCycles (s : State) : (popPc s).extraCycles = s.extraCycles := rfl
@[simp] theorem popPc_cycles (s : State) : (popPc s).cycles = s.cycles := rfl
@[simp] theorem popPc_wasReset (s : State) : (popPc s).wasReset = s.wasReset := rfl

@[simp] theorem beginStep_a (s : State) : (beginStep s).a = s.a := rfl
@[simp] theorem beginStep_x (s : State) : (beginStep s).x = s.x := rfl
@[simp] theorem beginStep_y (s : State) : (beginStep s).y = s.y := rfl
@[simp] theorem beginStep_sp (s : State) : (beginStep s).sp = s.sp := rfl
@[simp] theorem beginStep_pc (s : State) : (beginStep s).pc = s.pc + 1 := rfl
@[simp] theorem beginStep_flagC (s : State) : (beginStep s).flagC = s.flagC := rfl
@[simp] theorem beginStep_flagZ (s : State) : (beginStep s).flagZ = s.flagZ := rfl
@[simp] theorem beginStep_flagI (s : State) : (beginStep s).flagI = s.flagI := rfl
@[simp] theorem beginStep_flagD (s : State) : (beginStep s).flagD = s.flagD := rfl
@[simp] theorem beginStep_flagB (s : State) : (beginStep s).flagB = s.flagB := rfl
@[simp] theorem beginStep_flagV (s : State) : (beginStep s).flagV = s.flagV := rfl
@[simp] theorem beginStep_flagN (s : State) : (beginStep s).flagN = s.flagN := rfl
@[simp] theorem beginStep_mem (s : State) : (beginStep s).mem = s.mem := rfl
@[simp] theorem beginStep_memCycles (s : State) : (beginStep s).memCycles = 0 := rfl
@[simp] theorem beginStep_extraCycles (s : State) : (beginStep s).extraCycles = 0 := rfl
@[simp] theorem beginStep_cycles (s : State) : (beginStep s).cycles = s.cycles := rfl
@[simp] theorem beginStep_wasReset (s : State) : (beginStep s).wasReset = s.wasReset := rfl

@[simp] theorem endStep_a (base : Nat) (s : State) : (endStep base s).a = s.a := rfl
@[simp] theorem endStep_x (base : Nat) (s : State) : (endStep base s).x = s.x := rfl
@[simp] theorem endStep_y (base : Nat) (s : State) : (endStep base s).y = s.y := rfl
@[simp] theorem endStep_sp (base : Nat) (s : State) : (endStep base s).sp = s.sp := rfl
@[simp] theorem endStep_pc (base : Nat) (s : State) : (endStep base s).pc = s.pc := rfl
@[simp] theorem endStep_flagC (base : Nat) (s : State) : (endStep base s).flagC = s.flagC := rfl
@[simp] theorem endStep_flagZ (base : Nat) (s : State) : (endStep base s).flagZ = s.flagZ := rfl
@[simp] theorem endStep_flagI (base : Nat) (s : State) : (endStep base s).flagI = s.flagI := rfl
@[simp] theorem endStep_flagD (base : Nat) (s : State) : (endStep base s).flagD = s.flagD := rfl
@[simp] theorem endStep_flagB (base : Nat) (s : State) : (endStep base s).flagB = s.flagB := rfl
@[simp] theorem endStep_flagV (base : Nat) (s : State) : (endStep base s).flagV = s.flagV := rfl
@[simp] theorem endStep_flagN (base : Nat) (s : State) : (endStep base s).flagN = s.flagN := rfl
@[simp] theorem endStep_mem (base : Nat) (s : State) : (endStep base s).mem = s.mem := rfl
@[simp] theorem endStep_memCycles (base : Nat) (s : State) : (endStep base s).memCycles = s.memCycles := rfl
@[simp] theorem endStep_extraCycles (base : Nat) (s : State) : (endStep base s).extraCycles = s.extraCycles := rfl
@[simp] theorem endStep_cycles (base : Nat) (s : State) : (endStep base s).cycles = base + s.memCycles + s.extraCycles := rfl
@[simp] theorem endStep_wasReset (base : Nat) (s : State) : (endStep base s).wasReset = s.wasReset := rfl

@[simp] theorem checkCarry_a (v : Int) (s : State) : (checkCarry v s).a = s.a := rfl
@[simp] theorem checkCarry_x (v : Int) (s : State) : (checkCarry v s).x = s.x := rfl
@[simp] theorem checkCarry_y (v : Int) (s : State) : (checkCarry v s).y = s.y := rfl
@[simp] theorem checkCarry_sp (v : Int) (s : State) : (checkCarry v s).sp = s.sp := rfl
@[simp] theorem checkCarry_pc (v : Int) (s : State) : (checkCarry v s).pc = s.pc := rfl
@[simp] theorem checkCarry_flagC (v : Int) (s : State) : (checkCarry v s).flagC = decide (v > 0xFF) := rfl
@[simp] theorem checkCarry_flagZ (v : Int) (s : State) : (checkCarry v s).flagZ = s.flagZ := rfl
@[simp] theorem checkCarry_flagI (v : Int) (s : State) : (checkCarry v s).flagI = s.flagI := rfl
@[simp] theorem checkCarry_flagD (v : Int) (s : State) : (checkCarry v s).flagD = s.flagD := rfl
@[simp] theorem checkCarry_flagB (v : Int) (s : State) : (checkCarry v s).flagB = s.flagB := rfl
@[simp] theorem checkCarry_flagV (v : Int) (s : State) : (checkCarry v s).flagV = s.flagV := rfl
@[simp] theorem checkCarry_flagN (v : Int) (s : State) : (checkCarry v s).flagN = s.flagN := rfl
@[simp] theorem checkCarry_mem (v : Int) (s : State) : (checkCarry v s).mem = s.mem := rfl
@[simp] theorem checkCarry_memCycles (v : Int) (s : State) : (checkCarry v s).memCycles = s.memCycles := rfl
@[simp] theorem checkCarry_extraCycles (v : Int) (s : State) : (checkCarry v s).extraCycles = s.extraCycles := rfl
@[simp] theorem checkCarry_cycles (v : Int) (s : State) : (checkCarry v s).cycles = s.cycles := rfl
@[simp] theorem checkCarry_wasReset (v : Int) (s : State) : (checkCarry v s).wasReset = s.wasReset := rfl

@[simp] theorem checkZero_a (v : Int) (s : State) : (checkZero v s).a = s.a := rfl
@[simp] theorem checkZero_x (v : Int) (s : State) : (checkZero v s).x = s.x := rfl
@[simp] theorem checkZero_y (v : Int) (s : State) : (checkZero v s).y = s.y := rfl
@[simp] theorem checkZero_sp (v : Int) (s : State) : (checkZero v s).sp = s.sp := rfl
@[simp] theorem checkZero_pc (v : Int) (s : State) : (checkZero v s).pc = s.pc := rfl
@[simp] theorem checkZero_flagC (v : Int) (s : State) : (checkZero v s).flagC = s.flagC := rfl
@[simp] theorem checkZero_flagZ (v : Int) (s : State) : (checkZero v s).flagZ = decide (v = 0) := rfl
@[simp] theorem checkZero_flagI (v : Int) (s : State) : (checkZero v s).flagI = s.flagI := rfl
@[simp] theorem checkZero_flagD (v : Int) (s : State) : (checkZero v s).flagD = s.flagD := rfl
@[simp] theorem checkZero_flagB (v : Int) (s : State) : (checkZero v s).flagB = s.flagB := rfl
@[simp] theorem checkZero_flagV (v : Int) (s : State) : (checkZero v s).flagV = s.flagV := rfl
@[simp] theorem checkZero_flagN (v : Int) (s : State) : (checkZero v s).flagN = s.flagN := rfl
@[simp] theorem checkZero_mem (v : Int) (s : State) : (checkZero v s).mem = s.mem := rfl
@[simp] theorem checkZero_memCycles (v : Int) (s : State) : (checkZero v s).memCycles = s.memCycles := rfl
@[simp] theorem checkZero_extraCycles (v : Int) (s : State) : (checkZero v s).extraCycles = s.extraCycles := rfl
@[simp] theorem checkZero_cycles (v : Int) (s : State) : (checkZero v s).cycles = s.cycles := rfl
@[simp] theorem checkZero_wasReset (v : Int) (s : State) : (checkZero v s).wasReset = s.wasReset := rfl

@[simp] theorem checkNegative_a (v : Int) (s : State) : (checkNegative v s).a = s.a := rfl
@[simp] theorem checkNegative_x (v : Int) (s : State) : (checkNegative v s).x = s.x := rfl
@[simp] theorem checkNegative_y (v : Int) (s : State) : (checkNegative v s).y = s.y := rfl
@[simp] theorem checkNegative_sp (v : Int) (s : State) : (checkNegative v s).sp = s.sp := rfl
@[simp] theorem checkNegative_pc (v : Int) (s : State) : (checkNegative v s).pc = s.pc := rfl
@[simp] theorem checkNegative_flagC (v : Int) (s : State) : (checkNegative v s).flagC = s.flagC := rfl
@[simp] theorem checkNegative_flagZ (v : Int) (s : State) : (checkNegative v s).flagZ = s.flagZ := rfl
@[simp] theorem checkNegative_flagI (v : Int) (s : State) : (checkNegative v s).flagI = s.flagI := rfl
@[simp] theorem checkNegative_flagD (v : Int) (s : State) : (checkNegative v s).flagD = s.flagD := rfl
@[simp] theorem checkNegative_flagB (v : Int) (s : State) : (checkNegative v s).flagB = s.flagB := rfl
@[simp] theorem checkNegative_flagV (v : Int) (s : State) : (checkNegative v s).flagV = s.flagV := rfl
@[simp] theorem checkNegative_flagN (v : Int) (s : State) : (checkNegative v s).flagN = bit7 v := rfl
@[simp] theorem checkNegative_mem (v : Int) (s : State) : (checkNegative v s).mem = s.mem := rfl
@[simp] theorem checkNegative_memCycles (v : Int) (s : State) : (checkNegative v s).memCycles = s.memCycles := rfl
@[simp] theorem checkNegative_extraCycles (v : Int) (s : State) : (checkNegative v s).extraCycles = s.extraCycles := rfl
@[simp] theorem checkNegative_cycles (v : Int) (s : State) : (checkNegative v s).cycles = s.cycles := rfl
@[simp] theorem checkNegative_wasReset (v : Int) (s : State) : (checkNegative v s).wasReset = s.wasReset := rfl

@[simp] theorem setZN_a (v : Int) (s : State) : (setZN v s).a = s.a := rfl
@[simp] theorem setZN_x (v : Int) (s : State) : (setZN v s).x = s.x := rfl
@[simp] theorem setZN_y (v : Int) (s : State) : (setZN v s).y = s.y := rfl
@[simp] theorem setZN_sp (v : Int) (s : State) : (setZN v s).sp = s.sp := rfl
@[simp] theorem setZN_pc (v : Int) (s : State) : (setZN v s).pc = s.pc := rfl
@[simp] theorem setZN_flagC (v : Int) (s : State) : (setZN v s).flagC = s.flagC := rfl
@[simp] theorem setZN_flagZ (v : Int) (s : State) : (setZN v s).flagZ = decide (v = 0) := rfl
@[simp] theorem setZN_flagI (v : Int) (s : State) : (setZN v s).flagI = s.flagI := rfl
@[simp] theorem setZN_flagD (v : Int) (s : State) : (setZN v s).flagD = s.flagD := rfl
@[simp] theorem setZN_flagB (v : Int) (s : State) : (setZN v s).flagB = s.flagB := rfl
@[simp] theorem setZN_flagV (v : Int) (s : State) : (setZN v s).flagV = s.flagV := rfl
@[simp] theorem setZN_flagN (v : Int) (s : State) : (setZN v s).flagN = bit7 v := rfl
@[simp] theorem setZN_mem (v : Int) (s : State) : (setZN v s).mem = s.mem := rfl
@[simp] theorem setZN_memCycles (v : Int) (s : State) : (setZN v s).memCycles = s.memCycles := rfl
@[simp] theorem setZN_extraCycles (v : Int) (s : State) : (setZN v s).extraCycles = s.extraCycles := rfl
@[simp] theorem setZN_cycles (v : Int) (s : State) : (setZN v s).cycles = s.cycles := rfl
@[simp] theorem setZN_wasReset (v : Int) (s : State) : (setZN v s).wasReset = s.wasReset := rfl

@[simp] theorem checkOverflowAdd_a (p m r : Int) (s : State) : (checkOverflowAdd p m r s).a = s.a := rfl
@[simp] theorem checkOverflowAdd_x (p m r : Int) (s : State) : (checkOverflowAdd p m r s).x = s.x := rfl
@[simp] theorem checkOverflowAdd_y (p m r : Int) (s : State) : (checkOverflowAdd p m r s).y = s.y := rfl
@[simp] theorem checkOverflowAdd_sp (p m r : Int) (s : State) : (checkOverflowAdd p m r s).sp = s.sp := rfl
@[simp] theorem checkOverflowAdd_pc (p m r : Int) (s : State) : (checkOverflowAdd p m r s).pc = s.pc := rfl
@[simp] theorem checkOverflowAdd_flagC (p m r : Int) (s : State) : (checkOverflowAdd p m r s).flagC = s.flagC := rfl
@[simp] theorem checkOverflowAdd_flagZ (p m r : Int) (s : State) : (checkOverflowAdd p m r s).flagZ = s.flagZ := rfl
@[simp] theorem checkOverflowAdd_flagI (p m r : Int) (s : State) : (checkOverflowAdd p m r s).flagI = s.flagI := rfl
@[simp] theorem checkOverflowAdd_flagD (p m r : Int) (s : State) : (checkOverflowAdd p m r s).flagD = s.flagD := rfl
@[simp] theorem checkOverflowAdd_flagB (p m r : Int) (s : State) : (checkOverflowAdd p m r s).flagB = s.flagB := rfl
@[simp] theorem checkOverflowAdd_flagV (p m r : Int) (s : State) : (checkOverflowAdd p m r s).flagV = ((bit7 p == bit7 m) && (bit7 r != bit7 p)) := rfl
@[simp] theorem checkOverflowAdd_flagN (p m r : Int) (s : State) : (checkOverflowAdd p m r s).flagN = s.flagN := rfl
@[simp] theorem checkOverflowAdd_mem (p m r : Int) (s : State) : (checkOverflowAdd p m r s).mem = s.mem := rfl
@[simp] theorem checkOverflowAdd_memCycles (p m r : Int) (s : State) : (checkOverflowAdd p m r s).memCycles = s.memCycles := rfl
@[simp] theorem checkOverflowAdd_extraCycles (p m r : Int) (s : State) : (checkOverflowAdd p m r s).extraCycles = s.extraCycles := rfl
@[simp] theorem checkOverflowAdd_cycles (p m r : Int) (s : State) : (checkOverflowAdd p m r s).cycles = s.cycles := rfl
@[simp] theorem checkOverflowAdd_wasReset (p m r : Int) (s : State) : (checkOverflowAdd p m r s).wasReset = s.wasReset := rfl

@[simp] theorem checkOverflowSub_a (p m r : Int) (s : State) : (checkOverflowSub p m r s).a = s.a := rfl
@[simp] theorem checkOverflowSub_x (p m r : Int) (s : State) : (checkOverflowSub p m r s).x = s.x := rfl
@[simp] theorem checkOverflowSub_y (p m r : Int) (s : State) : (checkOverflowSub p m r s).y = s.y := rfl
@[simp] theorem checkOverflowSub_sp (p m r : Int) (s : State) : (checkOverflowSub p m r s).sp = s.sp := rfl
@[simp] theorem checkOverflowSub_pc (p m r : Int) (s : State) : (checkOverflowSub p m r s).pc = s.pc := rfl
@[simp] theorem checkOverflowSub_flagC (p m r : Int) (s : State) : (checkOverflowSub p m r s).flagC = s.flagC := rfl
@[simp] theorem checkOverflowSub_flagZ (p m r : Int) (s : State) : (checkOverflowSub p m r s).flagZ = s.flagZ := rfl
@[simp] theorem checkOverflowSub_flagI (p m r : Int) (s : State) : (checkOverflowSub p m r s).flagI = s.flagI := rfl
@[simp] theorem checkOverflowSub_flagD (p m r : Int) (s : State) : (checkOverflowSub p m r s).flagD = s.flagD := rfl
@[simp] theorem checkOverflowSub_flagB (p m r : Int) (s : State) : (checkOverflowSub p m r s).flagB = s.flagB := rfl
@[simp] theorem checkOverflowSub_flagV (p m r : Int) (s : State) : (checkOverflowSub p m r s).flagV = ((bit7 p != bit7 m) && (bit7 r != bit7 p)) := rfl
@[simp] theorem checkOverflowSub_flagN (p m r : Int) (s : State) : (checkOverflowSub p m r s).flagN = s.flagN := rfl
@[simp] theorem checkOverflowSub_mem (p m r : Int) (s : State) : (checkOverflowSub p m r s).mem = s.mem := rfl
@[simp] theorem checkOverflowSub_memCycles (p m r : Int) (s : State) : (checkOverflowSub p m r s).memCycles = s.memCycles := rfl
@[simp] theorem checkOverflowSub_extraCycles (p m r : Int) (s : State) : (checkOverflowSub p m r s).extraCycles = s.extraCycles := rfl
@[simp] theorem checkOverflowSub_cycles (p m r : Int) (s : State) : (checkOverflowSub p m r s).cycles = s.cycles := rfl
@[simp] theorem checkOverflowSub_wasReset (p m r : Int) (s : State) : (checkOverflowSub p m r s).wasReset = s.wasReset := rfl

@[simp] theorem unpackP_a (v : Byte) (s : State) : (unpackP v s).a = s.a := rfl
@[simp] theorem unpackP_x (v : Byte) (s : State) : (unpackP v s).x = s.x := rfl
@[simp] theorem unpackP_y (v : Byte) (s : State) : (unpackP v s).y = s.y := rfl
@[simp] theorem unpackP_sp (v : Byte) (s : State) : (unpackP v s).sp = s.sp := rfl
@[simp] theorem unpackP_pc (v : Byte) (s : State) : (unpackP v s).pc = s.pc := rfl
@[simp] theorem unpackP_flagC (v : Byte) (s : State) : (unpackP v s).flagC = v.getLsbD 0 := rfl
@[simp] theorem unpackP_flagZ (v : Byte) (s : State) : (unpackP v s).flagZ = v.getLsbD 1 := rfl
@[simp] theorem unpackP_flagI (v : Byte) (s : State) : (unpackP v s).flagI = v.getLsbD 2 := rfl
@[simp] theorem unpackP_flagD (v : Byte) (s : State) : (unpackP v s).flagD = v.getLsbD 3 := rfl
@[simp] theorem unpackP_flagB (v : Byte) (s : State) : (unpackP v s).flagB = v.getLsbD 4 := rfl
@[simp] theorem unpackP_flagV (v : Byte) (s : State) : (unpackP v s).flagV = v.getLsbD 6 := rfl
@[simp] theorem unpackP_flagN (v : Byte) (s : State) : (unpackP v s).flagN = v.getLsbD 7 := rfl
@[simp] theorem unpackP_mem (v : Byte) (s : State) : (unpackP v s).mem = s.mem := rfl
@[simp] theorem unpackP_memCycles (v : Byte) (s : State) : (unpackP v s).memCycles = s.memCycles := rfl
@[simp] theorem unpackP_extraCycles (v : Byte) (s : State) : (unpackP v s).extraCycles = s.extraCycles := rfl
@[simp] theorem unpackP_cycles (v : Byte) (s : State) : (unpackP v s).cycles = s.cycles := rfl
@[simp] theorem unpackP_wasReset (v : Byte) (s : State) : (unpackP v s).wasReset = s.wasReset := rfl

/-! ### The zero/negative check on a byte, and the register writes -/

theorem bit7_byte (b : Byte) : bit7 b.toNat = b.msb := by
  simp [bit7, BitVec.ofInt_natCast]

theorem zero_byte (b : Byte) : decide ((b.toNat : Int) = 0) = (b == 0) := by
  rw [Bool.eq_iff_iff]
  simp only [decide_eq_true_eq, beq_iff_eq, Int.natCast_eq_zero]
  exact ⟨fun h => BitVec.eq_of_toNat_eq (by simpa using h), fun h => by simp [h]⟩

@[simp] theorem setZNByte_flagZ (v : Byte) (s : State) : (setZNByte v s).flagZ = (v == 0) := zero_byte v
@[simp] theorem setZNByte_flagN (v : Byte) (s : State) : (setZNByte v s).flagN = v.msb := bit7_byte v
@[simp] theorem setZNByte_a (v : Byte) (s : State) : (setZNByte v s).a = s.a := rfl
@[simp] theorem setZNByte_x (v : Byte) (s : State) : (setZNByte v s).x = s.x := rfl
@[simp] theorem setZNByte_y (v : Byte) (s : State) : (setZNByte v s).y = s.y := rfl
@[simp] theorem setZNByte_sp (v : Byte) (s : State) : (setZNByte v s).sp = s.sp := rfl
@[simp] theorem setZNByte_pc (v : Byte) (s : State) : (setZNByte v s).pc = s.pc := rfl
@[simp] theorem setZNByte_flagC (v : Byte) (s : State) : (setZNByte v s).flagC = s.flagC := rfl
@[simp] theorem setZNByte_flagI (v : Byte) (s : State) : (setZNByte v s).flagI = s.flagI := rfl
@[simp] theorem setZNByte_flagD (v : Byte) (s : State) : (setZNByte v s).flagD = s.flagD := rfl
@[simp] theorem setZNByte_flagB (v : Byte) (s : State) : (setZNByte v s).flagB = s.flagB := rfl
@[simp] theorem setZNByte_flagV (v : Byte) (s : State) : (setZNByte v s).flagV = s.flagV := rfl
@[simp] theorem setZNByte_mem (v : Byte) (s : State) : (setZNByte v s).mem = s.mem := rfl
@[simp] theorem setZNByte_memCycles (v : Byte) (s : State) : (setZNByte v s).memCycles = s.memCycles := rfl
@[simp] theorem setZNByte_extraCycles (v : Byte) (s : State) : (setZNByte v s).extraCycles = s.extraCycles := rfl
@[simp] theorem setZNByte_cycles (v : Byte) (s : State) : (setZNByte v s).cycles = s.cycles := rfl
@[simp] theorem setZNByte_wasReset (v : Byte) (s : State) : (setZNByte v s).wasReset = s.wasReset := rfl

@[simp] theorem writeA_a (v : Byte) (s : State) : (writeA v s).a = v := rfl
@[simp] theorem writeA_x (v : Byte) (s : State) : (writeA v s).x = s.x := rfl
@[simp] theorem writeA_y (v : Byte) (s : State) : (writeA v s).y = s.y := rfl
@[simp] theorem writeA_sp (v : Byte) (s : State) : (writeA v s).sp = s.sp := rfl
@[simp] theorem writeA_pc (v : Byte) (s : State) : (writeA v s).pc = s.pc := rfl
@[simp] theorem writeA_flagC (v : Byte) (s : State) : (writeA v s).flagC = s.flagC := rfl
@[simp] theorem writeA_flagZ (v : Byte) (s : State) : (writeA v s).flagZ = (v == 0) := zero_byte v
@[simp] theorem writeA_flagI (v : Byte) (s : State) : (writeA v s).flagI = s.flagI := rfl
@[simp] theorem writeA_flagD (v : Byte) (s : State) : (writeA v s).flagD = s.flagD := rfl
@[simp] theorem writeA_flagB (v : Byte) (s : State) : (writeA v s).flagB = s.flagB := rfl
@[simp] theorem writeA_flagV (v : Byte) (s : State) : (writeA v s).flagV = s.flagV := rfl
@[simp] theorem writeA_flagN (v : Byte) (s : State) : (writeA v s).flagN = v.msb := bit7_byte v
@[simp] theorem writeA_mem (v : Byte) (s : State) : (writeA v s).mem = s.mem := rfl
@[simp] theorem writeA_memCycles (v : Byte) (s : State) : (writeA v s).memCycles = s.memCycles := rfl
@[simp] theorem writeA_extraCycles (v : Byte) (s : State) : (writeA v s).extraCycles = s.extraCycles := rfl
@[simp] theorem writeA_cycles (v : Byte) (s : State) : (writeA v s).cycles = s.cycles := rfl
@[simp] theorem writeA_wasReset (v : Byte) (s : State) : (writeA v s).wasReset = s.wasReset := rfl

@[simp] theorem writeX_a (v : Byte) (s : State) : (writeX v s).a = s.a := rfl
@[simp] theorem writeX_x (v : Byte) (s : State) : (writeX v s).x = v := rfl
@[simp] theorem writeX_y (v : Byte) (s : State) : (writeX v s).y = s.y := rfl
@[simp] theorem writeX_sp (v : Byte) (s : State) : (writeX v s).sp = s.sp := rfl
@[simp] theorem writeX_pc (v : Byte) (s : State) : (writeX v s).pc = s.pc := rfl
@[simp] theorem writeX_flagC (v : Byte) (s : State) : (writeX v s).flagC = s.flagC := rfl
@[simp] theorem writeX_flagZ (v : Byte) (s : State) : (writeX v s).flagZ = (v == 0) := zero_byte v
@[simp] theorem writeX_flagI (v : Byte) (s : State) : (writeX v s).flagI = s.flagI := rfl
@[simp] theorem writeX_flagD (v : Byte) (s : State) : (writeX v s).flagD = s.flagD := rfl
@[simp] theorem writeX_flagB (v : Byte) (s : State) : (writeX v s).flagB = s.flagB := rfl
@[simp] theorem writeX_flagV (v : Byte) (s : State) : (writeX v s).flagV = s.flagV := rfl
@[simp] theorem writeX_flagN (v : Byte) (s : State) : (writeX v s).flagN = v.msb := bit7_byte v
@[simp] theorem writeX_mem (v : Byte) (s : State) : (writeX v s).mem = s.mem := rfl
@[simp] theorem writeX_memCycles (v : Byte) (s : State) : (writeX v s).memCycles = s.memCycles := rfl
@[simp] theorem writeX_extraCycles (v : Byte) (s : State) : (writeX v s).extraCycles = s.extraCycles := rfl
@[simp] theorem writeX_cycles (v : Byte) (s : State) : (writeX v s).cycles = s.cycles := rfl
@[simp] theorem writeX_wasReset (v : Byte) (s : State) : (writeX v s).wasReset = s.wasReset := rfl

@[simp] theorem writeY_a (v : Byte) (s : State) : (writeY v s).a = s.a := rfl
@[simp] theorem writeY_x (v : Byte) (s : State) : (writeY v s).x = s.x := rfl
@[simp] theorem writeY_y (v : Byte) (s : State) : (writeY v s).y = v := rfl
@[simp] theorem writeY_sp (v : Byte) (s : State) : (writeY v s).sp = s.sp := rfl
@[simp] theorem writeY_pc (v : Byte) (s : State) : (writeY v s).pc = s.pc := rfl
@[simp] theorem writeY_flagC (v : Byte) (s : State) : (writeY v s).flagC = s.flagC := rfl
@[simp] theorem writeY_flagZ (v : Byte) (s : State) : (writeY v s).flagZ = (v == 0) := zero_byte v
@[simp] theorem writeY_flagI (v : Byte) (s : State) : (writeY v s).flagI = s.flagI := rfl
@[simp] theorem writeY_flagD (v : Byte) (s : State) : (writeY v s).flagD = s.flagD := rfl
@[simp] theorem writeY_flagB (v : Byte) (s : State) : (writeY v s).flagB = s.flagB := rfl
@[simp] theorem writeY_flagV (v : Byte) (s : State) : (writeY v s).flagV = s.flagV := rfl
@[simp] theorem writeY_flagN (v : Byte) (s : State) : (writeY v s).flagN = v.msb := bit7_byte v
@[simp] theorem writeY_mem (v : Byte) (s : State) : (writeY v s).mem = s.mem := rfl
@[simp] theorem writeY_memCycles (v : Byte) (s : State) : (writeY v s).memCycles = s.memCycles := rfl
@[simp] theorem writeY_extraCycles (v : Byte) (s : State) : (writeY v s).extraCycles = s.extraCycles := rfl
@[simp] theorem writeY_cycles (v : Byte) (s : State) : (writeY v s).cycles = s.cycles := rfl
@[simp] theorem writeY_wasReset (v : Byte) (s : State) : (writeY v s).wasReset = s.wasReset := rfl

/-- Two states are equal when every field is. -/
theorem State.ext_fields {s t : State} (ha : s.a = t.a) (hx : s.x = t.x) (hy : s.y = t.y) (hsp : s.sp = t.sp)
    (hpc : s.pc = t.pc) (hC : s.flagC = t.flagC) (hZ : s.flagZ = t.flagZ) (hI : s.flagI = t.flagI)
    (hD : s.flagD = t.flagD) (hB : s.flagB = t.flagB) (hV : s.flagV = t.flagV) (hN : s.flagN = t.flagN)
    (hm : s.mem = t.mem) (h1 : s.memCycles = t.memCycles) (h2 : s.extraCycles = t.extraCycles)
    (h3 : s.cycles = t.cycles) (h4 : s.wasReset = t.wasReset) : s = t := by
  cases s; cases t; simp_all

end Sys2Proof.Machine
end

