-- ==== Sys2Proof/Laws/Ops.lean ====
section
/-! SUPPORT. What each shared operation of the machine can do, one lemma each, for proofs to cite in place of its definition. -/

namespace Sys2Proof.Machine

/-! ### Bytes and words -/

@[simp] theorem word_hiByte_loByte (w : Word) : word (hiByte w) (loByte w) = w := by
  apply BitVec.eq_of_toNat_eq
  simp only [word, hiByte, loByte, BitVec.toNat_append, BitVec.extractLsb'_toNat]
  have := w.isLt
  rw [← Nat.shiftLeft_add_eq_or_of_lt (by omega)]
  simp [Nat.shiftLeft_eq, Nat.shiftRight_eq_div_pow]
  omega

@[simp] theorem hiByte_word (h l : Byte) : hiByte (word h l) = h := by
  unfold word hiByte; ext i hi; simp; grind

@[simp] theorem loByte_word (h l : Byte) : loByte (word h l) = l := by
  unfold word loByte; ext i hi; simp; grind

/-! ### Memory and stack -/

/-- A byte read after a write (20_memory.md R60, R61). -/
theorem readByte_writeByte (addr b : Word) (v : Byte) (s : State) :
    readByte (writeByte addr v s) b = if b = addr then v else readByte s b := by
  simp only [readByte, writeByte_mem, Memory.read_write, BitVec.toNat_inj]

/-- A byte read depends on the memory alone. -/
theorem readByte_congr {s t : State} (h : s.mem = t.mem) (addr : Word) : readByte s addr = readByte t addr := by
  simp [readByte, h]

theorem stackAddr_toNat (sp : Byte) : (stackAddr sp).toNat = 0x100 + sp.toNat := by
  have := sp.isLt
  have h : (0x0100 : Word).toNat = 0x100 := rfl
  rw [stackAddr, BitVec.toNat_add, h, zext, BitVec.toNat_setWidth]
  omega

theorem stackAddr_inj {p q : Byte} : stackAddr p = stackAddr q ↔ p = q := by
  rw [← BitVec.toNat_inj, stackAddr_toNat, stackAddr_toNat, ← BitVec.toNat_inj]; omega

/-- A byte read after a push: the pushed byte at the stack address, every other as before (10_state.md R41). -/
theorem readByte_push (v : Byte) (s : State) (b : Word) :
    readByte (push v s) b = if b = stackAddr s.sp then v else readByte s b :=
  readByte_writeByte (stackAddr s.sp) b v s

@[simp] theorem pop_fst (s : State) : (pop s).1 = readByte s (stackAddr (s.sp + 1)) := rfl

/-! ### The step's frame -/

/-- At PC_WRAP's default PC advances and nothing faults. -/
@[simp] theorem advance_wrap (n : Nat) (s : State) : advance true n s = .ok (advancePc n s) := rfl

/-- The start of a step answers `beginStep`. -/
@[simp] theorem startStep_eq (s : State) : startStep s = .ok (beginStep s) := rfl

/-- BRK answers trap entry with PC past the byte after the opcode. -/
theorem brk_eq (s : State) : brk s = .ok (takeTrap (advancePc brkPcExtra s)) := rfl

/-- A step whose operation answers a state ends there, with the cycle count. -/
theorem runInstr_ok {base : Nat} {body : State → Except Fault State} {s t : State}
    (h : body (beginStep s) = .ok t) : runInstr base body s = .next (endStep base t) := by
  simp [runInstr, h]

/-- If a step answers a next state, its operation answered one. -/
theorem runInstr_next {base : Nat} {body : State → Except Fault State} {s t : State}
    (h : runInstr base body s = .next t) : ∃ u, body (beginStep s) = .ok u ∧ t = endStep base u := by
  simp only [runInstr, startStep_eq] at h
  split at h
  · next u hu => exact ⟨u, hu, by simpa using h.symm⟩
  · simp at h

/-! ### The resolver -/

/-- The state the resolver leaves: PC past the operand bytes, the page-cross cycle counted (40_addressing_modes.md R120). -/
def resolved (o : Operand) (s : State) : State :=
  { s with pc := s.pc + BitVec.ofNat 16 o.mode.operandBytes, memCycles := s.memCycles + pagePenalty o s }

/-- The effective address depends on X, Y, PC and memory alone. -/
theorem operandAddr_congr {s t : State} (hx : s.x = t.x) (hy : s.y = t.y) (hpc : s.pc = t.pc) (hm : s.mem = t.mem)
    (o : Operand) : operandAddr o s = operandAddr o t := by
  cases o <;> simp [operandAddr, zpWord, absWord, readByte, hx, hy, hpc, hm]

/-- But for a relative operand the effective address does not depend on PC. -/
theorem operandAddr_congr_pc {s t : State} (hx : s.x = t.x) (hy : s.y = t.y) (hm : s.mem = t.mem)
    {o : Operand} (ho : o.mode ≠ .relative) : operandAddr o s = operandAddr o t := by
  cases o <;> simp_all [operandAddr, zpWord, absWord, readByte, Operand.mode]

/-- The operand value depends on A, X, Y and memory alone. -/
theorem operandValue_congr {s t : State} (ha : s.a = t.a) (hx : s.x = t.x) (hy : s.y = t.y) (hm : s.mem = t.mem)
    (o : Operand) : operandValue o s = operandValue o t := by
  cases o <;> simp [operandValue, operandAddr, zpWord, readByte, ha, hx, hy, hm]

/-- The page-cross cycle depends on X, Y and memory alone. -/
theorem pagePenalty_congr {s t : State} (hx : s.x = t.x) (hy : s.y = t.y) (hm : s.mem = t.mem) (o : Operand) :
    pagePenalty o s = pagePenalty o t := by
  cases o <;> simp [pagePenalty, zpWord, readByte, hx, hy, hm]

/-- What the start of a step changes (PC, the counters) the operand functions do not read. -/
theorem operandValue_beginStep (o : Operand) (s : State) : operandValue o (beginStep s) = operandValue o s :=
  operandValue_congr (s := beginStep s) (t := s) rfl rfl rfl rfl o

theorem pagePenalty_beginStep (o : Operand) (s : State) : pagePenalty o (beginStep s) = pagePenalty o s :=
  pagePenalty_congr (s := beginStep s) (t := s) rfl rfl rfl o

theorem operandAddr_beginStep {o : Operand} (h : o.mode ≠ .relative) (s : State) :
    operandAddr o (beginStep s) = operandAddr o s :=
  operandAddr_congr_pc (s := beginStep s) (t := s) rfl rfl rfl h

theorem operandAddr_resolved {o : Operand} (h : o.mode ≠ .relative) (s : State) :
    operandAddr o (resolved o s) = operandAddr o s :=
  operandAddr_congr_pc (s := resolved o s) (t := s) rfl rfl rfl h

/-- Called with any mode but implicit the resolver answers `resolved`. -/
theorem resolve_ok {o : Operand} (ho : o ≠ .implicit) (s : State) : resolve o s = .ok (resolved o s) := by
  simp only [resolve, if_neg ho, resolved, pcWrap, advance_wrap]
  rw [pagePenalty_congr (t := s) (by rfl) (by rfl) (by rfl)]
  rfl

/-- Called with mode implicit it raises ImplicitModeRead (R122). -/
theorem resolve_implicit (s : State) : resolve .implicit s = .error (.implicitModeRead s) := by
  simp [resolve]

/-- At ADDR_WRAP's default no operand presents an address past the address space. -/
@[simp] theorem addrOverrun_wrap (o : Operand) (s : State) : addrOverrun true o s = none := by
  cases o <;> rfl

/-- With any operand but implicit an operation runs on the resolved state. -/
theorem withOperand_ok {o : Operand} (ho : o ≠ .implicit) (s : State) (k : State → Except Fault State) :
    withOperand o s k = k (resolved o s) := by
  simp [withOperand, resolve_ok ho, addrWrap]

/-- An operation on an operand that has a value runs on that value. -/
theorem withValue_ok {o : Operand} {s : State} {v : Byte} (h : operandValue o s = some v) (k : Byte → State → State) :
    withValue o s k = .ok (k v (resolved o s)) := by
  have ho : o ≠ .implicit := by rintro rfl; simp [operandValue] at h
  rw [withValue, withOperand_ok ho]
  simp only [operandValue_congr (t := s) (s := resolved o s) rfl rfl rfl rfl, h]

/-- An operation on an operand that has an address runs on that address; PC is past the operand bytes. -/
theorem withAddr_ok {o : Operand} {s : State} {addr : Word} (h : operandAddr o (resolved o s) = some addr)
    (k : Word → State → State) : withAddr o s k = .ok (k addr (resolved o s)) := by
  have ho : o ≠ .implicit := by rintro rfl; simp [operandAddr] at h
  rw [withAddr, withOperand_ok ho]
  simp only [h]

/-- A taken branch, with PC_WRAP at its default: the target and the penalties. -/
theorem takeBranch_wrap (b : Byte) (t : State) : takeBranch true b t =
    .ok { t with
      extraCycles := t.extraCycles + 1 + (if pageCross t.pc (relTarget b t.pc) then 1 else 0), pc := relTarget b t.pc } := rfl

/-- A branch answers a state, taken or not. -/
theorem branch_eq (taken : State → Bool) (b : Byte) (s : State) : branch taken b s =
    .ok (let t := resolved (.relative b) s
      if taken t then
        { t with
          extraCycles := t.extraCycles + 1 + (if pageCross t.pc (relTarget b t.pc) then 1 else 0), pc := relTarget b t.pc }
      else t) := by
  rw [branch, withOperand_ok (by simp)]
  simp only [pcWrap, takeBranch_wrap]
  split <;> rfl

/-- A read-modify-write in accumulator mode. -/
theorem modify_accumulator (s : State) (f : Byte → State → Byte) (g : Byte → State → State) :
    modify .accumulator s f g =
      .ok (g s.a { resolved .accumulator s with a := f s.a (resolved .accumulator s) }) := by
  rw [modify, withValue_ok (v := s.a) rfl] <;> simp [writeBack]

/-- A read-modify-write of the byte at an address. -/
theorem modify_memory {o : Operand} {s : State} {addr : Word} (h : operandAddr o s = some addr)
    (hm : (operandValue o s).isSome) (f : Byte → State → Byte) (g : Byte → State → State) :
    modify o s f g =
      .ok (g (readByte s addr) (writeByte addr (f (readByte s addr) (resolved o s)) (resolved o s))) := by
  have hv : operandValue o s = some (readByte s addr) := by
    cases o <;> simp_all [operandValue, operandAddr]
  have hr : operandAddr o (resolved o s) = some addr := by
    rw [operandAddr_congr_pc (s := resolved o s) (t := s) rfl rfl rfl (by cases o <;> simp_all [operandValue, Operand.mode]), h]
  cases o <;> first
    | (simp [operandAddr] at h; done)
    | (rw [modify, withValue_ok hv]
       · simp only [writeBack, hr]
       · simp)

end Sys2Proof.Machine
end

