-- ==== Sys2Proof/Laws/Exec.lean ====
section
/-! SUPPORT. What `exec` does, said once: the operation of the instruction's mnemonic on the instruction's operand, inside the frame
of the step (30_encoding.md R100, R101). -/

namespace Sys2Proof.Machine

/-- The byte of a relative operand. -/
def relByte : Operand → Byte
  | .relative b => b
  | _ => 0

/-- The shared operation of each mnemonic. -/
def bodyOf (op : Operation) (o : Operand) : State → Except Fault State :=
  match op with
  | .adc => adc o
  | .sbc => sbc o
  | .and => andA o
  | .ora => oraA o
  | .eor => eorA o
  | .bit => bitTest o
  | .asl => asl o
  | .lsr => lsr o
  | .rol => rol o
  | .ror => ror o
  | .cmp => compare State.a o
  | .cpx => compare State.x o
  | .cpy => compare State.y o
  | .inc => incM o
  | .dec => decM o
  | .inx => implied inx
  | .iny => implied iny
  | .dex => implied dex
  | .dey => implied dey
  | .bcc => branch (fun t => !t.flagC) (relByte o)
  | .bcs => branch (fun t => t.flagC) (relByte o)
  | .beq => branch (fun t => t.flagZ) (relByte o)
  | .bmi => branch (fun t => t.flagN) (relByte o)
  | .bne => branch (fun t => !t.flagZ) (relByte o)
  | .bpl => branch (fun t => !t.flagN) (relByte o)
  | .bvc => branch (fun t => !t.flagV) (relByte o)
  | .bvs => branch (fun t => t.flagV) (relByte o)
  | .jmp => jmp o
  | .jsr => jsr o
  | .rts => implied rts
  | .brk => brk
  | .rti => implied rti
  | .pha => implied pha
  | .php => implied php
  | .pla => implied pla
  | .plp => implied plp
  | .tax => implied tax
  | .tay => implied tay
  | .txa => implied txa
  | .tya => implied tya
  | .tsx => implied tsx
  | .txs => implied txs
  | .clc => implied (clearFlag .c)
  | .cld => implied (clearFlag .d)
  | .cli => implied (clearFlag .i)
  | .clv => implied (clearFlag .v)
  | .sec => implied (setFlag .c)
  | .sed => implied (setFlag .d)
  | .sei => implied (setFlag .i)
  | .nop => implied nop
  | .lda => lda o
  | .ldx => ldx o
  | .ldy => ldy o
  | .sta => sta o
  | .stx => stx o
  | .sty => sty o

/-- Every arm of `exec` is the operation of its mnemonic on its operand, with its base count. -/
theorem exec_eq (i : Instr) (s : State) :
    exec i s = runInstr (baseCycles i) (bodyOf i.operation i.operand) s := by
  cases i <;> rfl

/-- If an instruction's operation answers a state at the start of the step, the instruction completes in it. -/
theorem exec_of_body {i : Instr} {s t : State} (h : bodyOf i.operation i.operand (beginStep s) = .ok t) :
    exec i s = .next (endStep (baseCycles i) t) := by
  rw [exec_eq]; exact runInstr_ok h

/-- An instruction that completes ran its operation to a state. -/
theorem exec_next {i : Instr} {s t : State} (h : exec i s = .next t) :
    ∃ u, bodyOf i.operation i.operand (beginStep s) = .ok u ∧ t = endStep (baseCycles i) u := by
  rw [exec_eq] at h; exact runInstr_next h

/-- The operations that consume a value are paired only with modes that have one. -/
theorem hasValue {i : Instr}
    (h : i.operation ∈ [Operation.adc, .sbc, .and, .ora, .eor, .bit, .cmp, .cpx, .cpy, .lda, .ldx, .ldy,
      .asl, .lsr, .rol, .ror, .inc, .dec]) (s : State) : ∃ m, operandValue i.operand s = some m := by
  cases i <;> first | (simp [Instr.operation] at h; done) | simp [operandValue, Instr.operand, operandAddr]

/-- The operations that store are paired only with modes that have an address, but for the accumulator shifts. -/
theorem hasAddr {i : Instr}
    (h : i.operation ∈ [Operation.sta, .stx, .sty, .asl, .lsr, .rol, .ror, .inc, .dec])
    (ha : i.operand ≠ .accumulator) (s : State) :
    i.operand.mode ≠ .relative ∧ ∃ addr, operandAddr i.operand s = some addr := by
  cases i <;> first
    | (simp [Instr.operation] at h; done)
    | (simp [Instr.operand] at ha; done)
    | simp [Instr.operand, operandAddr, Operand.mode]

/-- A value-consuming instruction completes in its operation's result on that value. -/
theorem exec_of_value {i : Instr} {s : State} {m : Byte} {k : Byte → State → State}
    (hb : bodyOf i.operation i.operand (beginStep s) = withValue i.operand (beginStep s) k)
    (hm : operandValue i.operand s = some m) :
    exec i s = .next (endStep (baseCycles i) (k m (resolved i.operand (beginStep s)))) :=
  exec_of_body (hb ▸ withValue_ok (by rw [operandValue_beginStep, hm]) k)

/-- An address-consuming instruction (not a branch) completes in its operation's result on that address. -/
theorem exec_of_addr {i : Instr} {s : State} {addr : Word} {k : Word → State → State}
    (hb : bodyOf i.operation i.operand (beginStep s) = withAddr i.operand (beginStep s) k)
    (hr : i.operand.mode ≠ .relative) (ha : operandAddr i.operand s = some addr) :
    exec i s = .next (endStep (baseCycles i) (k addr (resolved i.operand (beginStep s)))) :=
  exec_of_body (hb ▸ withAddr_ok (by rw [operandAddr_resolved hr, operandAddr_beginStep hr, ha]) k)

/-- A read-modify-write of memory completes in its result at that address. -/
theorem exec_of_modify {i : Instr} {s : State} {addr : Word} {f : Byte → State → Byte} {g : Byte → State → State}
    (hb : bodyOf i.operation i.operand (beginStep s) = modify i.operand (beginStep s) f g)
    (hr : i.operand.mode ≠ .relative) (ha : operandAddr i.operand s = some addr)
    (hv : (operandValue i.operand s).isSome) :
    let r := resolved i.operand (beginStep s)
    exec i s = .next (endStep (baseCycles i) (g (readByte s addr) (writeByte addr (f (readByte s addr) r) r))) :=
  exec_of_body (hb ▸ modify_memory (by rw [operandAddr_beginStep hr, ha]) (by rw [operandValue_beginStep]; exact hv) f g)

end Sys2Proof.Machine
end

