-- ==== Sys2Proof/Laws/Flags.lean ====
section
/-! SUPPORT. The integer checks of flag_alu as facts about the masked byte (10_state.md R36 to R39), and the packed status byte bit by bit
(R33, R34). -/

namespace Sys2Proof.Machine

/-- Bit 7 of an integer is the top bit of its residue modulo 256. -/
theorem bit7_eq (v : Int) : bit7 v = decide (128 ≤ v % 256) := by
  simp [bit7, BitVec.msb_eq_decide, BitVec.toNat_ofInt]; omega

theorem msb_ofInt (v : Int) : (BitVec.ofInt 8 v).msb = decide (128 ≤ v % 256) := bit7_eq v

theorem ofInt_eq_zero (v : Int) : (BitVec.ofInt 8 v == 0) = decide (v % 256 = 0) := by
  rw [Bool.eq_iff_iff, beq_iff_eq, decide_eq_true_eq, ← BitVec.toNat_inj, BitVec.toNat_ofInt]
  simp; omega

theorem flagBit_eq (f : Bool) : flagBit f = f.toNat := by cases f <;> rfl

theorem getLsbD_seven (v : Byte) : v.getLsbD 7 = v.msb := by simp [BitVec.msb_eq_getLsbD_last]

/-- The sign-change tests of R38 and R39 in their XOR form, for a result byte. -/
theorem overflowAdd_xor (a m r : Byte) :
    ((a.msb == m.msb) && (r.msb != a.msb)) = (~~~(a ^^^ m) &&& (a ^^^ r)).getLsbD 7 := by
  rw [getLsbD_seven]; simp
  cases a.msb <;> cases m.msb <;> cases r.msb <;> rfl

theorem overflowSub_xor (a m r : Byte) :
    ((a.msb != m.msb) && (r.msb != a.msb)) = ((a ^^^ m) &&& (a ^^^ r)).getLsbD 7 := by
  rw [getLsbD_seven]; simp
  cases a.msb <;> cases m.msb <;> cases r.msb <;> rfl

/-- Each flag stands at its bit of P (R32). -/
theorem packP_getLsbD (s : State) (f : Flag) : (packP s).getLsbD f.bit = s.flag f := by
  have bits : ∀ n v b d i z c : Bool,
      let p : Byte := BitVec.ofBool n ++ BitVec.ofBool v ++ BitVec.ofBool true ++ BitVec.ofBool b ++ BitVec.ofBool d ++
        BitVec.ofBool i ++ BitVec.ofBool z ++ BitVec.ofBool c
      p.getLsbD 0 = c ∧ p.getLsbD 1 = z ∧ p.getLsbD 2 = i ∧ p.getLsbD 3 = d ∧ p.getLsbD 4 = b ∧ p.getLsbD 6 = v ∧
        p.getLsbD 7 = n := by decide
  obtain ⟨hC, hZ, hI, hD, hB, hV, hN⟩ := bits s.flagN s.flagV s.flagB s.flagD s.flagI s.flagZ s.flagC
  cases f <;> assumption

/-- P depends on the flags alone. -/
theorem packP_congr {s t : State} (h : ∀ f, s.flag f = t.flag f) : packP s = packP t := by
  have hC := h .c; have hZ := h .z; have hI := h .i; have hD := h .d; have hB := h .b; have hV := h .v; have hN := h .n
  simp only [State.flag] at hC hZ hI hD hB hV hN
  simp only [packP, hC, hZ, hI, hD, hB, hV, hN]

end Sys2Proof.Machine
end

