-- ==== Sys2Proof/Laws/PerInstr.lean ====
section
/-! SUPPORT. Family Format: an instruction's operation and mode are a pairing of the table, its opcode byte is its slot's, and its
bytes are as many as its mode says (30_encoding.md R90, R91, R97). -/

namespace Sys2Proof.Laws.Format

def Statement (i : Instr) : Prop :=
  i.wellFormed = true ∧ (lookup i.opcode).isSome = true ∧ (encode i).length = i.length

theorem adcIndexedIndirect (b : Byte) : Statement (.adcIndexedIndirect b) := ⟨rfl, rfl, rfl⟩
theorem adcZeroPage (b : Byte) : Statement (.adcZeroPage b) := ⟨rfl, rfl, rfl⟩
theorem adcImmediate (b : Byte) : Statement (.adcImmediate b) := ⟨rfl, rfl, rfl⟩
theorem adcAbsolute (w : Word) : Statement (.adcAbsolute w) := ⟨rfl, rfl, rfl⟩
theorem adcIndirectIndexed (b : Byte) : Statement (.adcIndirectIndexed b) := ⟨rfl, rfl, rfl⟩
theorem adcZeroPageX (b : Byte) : Statement (.adcZeroPageX b) := ⟨rfl, rfl, rfl⟩
theorem adcAbsoluteY (w : Word) : Statement (.adcAbsoluteY w) := ⟨rfl, rfl, rfl⟩
theorem adcAbsoluteX (w : Word) : Statement (.adcAbsoluteX w) := ⟨rfl, rfl, rfl⟩
theorem sbcIndexedIndirect (b : Byte) : Statement (.sbcIndexedIndirect b) := ⟨rfl, rfl, rfl⟩
theorem sbcZeroPage (b : Byte) : Statement (.sbcZeroPage b) := ⟨rfl, rfl, rfl⟩
theorem sbcImmediate (b : Byte) : Statement (.sbcImmediate b) := ⟨rfl, rfl, rfl⟩
theorem sbcAbsolute (w : Word) : Statement (.sbcAbsolute w) := ⟨rfl, rfl, rfl⟩
theorem sbcIndirectIndexed (b : Byte) : Statement (.sbcIndirectIndexed b) := ⟨rfl, rfl, rfl⟩
theorem sbcZeroPageX (b : Byte) : Statement (.sbcZeroPageX b) := ⟨rfl, rfl, rfl⟩
theorem sbcAbsoluteY (w : Word) : Statement (.sbcAbsoluteY w) := ⟨rfl, rfl, rfl⟩
theorem sbcAbsoluteX (w : Word) : Statement (.sbcAbsoluteX w) := ⟨rfl, rfl, rfl⟩
theorem andIndexedIndirect (b : Byte) : Statement (.andIndexedIndirect b) := ⟨rfl, rfl, rfl⟩
theorem andZeroPage (b : Byte) : Statement (.andZeroPage b) := ⟨rfl, rfl, rfl⟩
theorem andImmediate (b : Byte) : Statement (.andImmediate b) := ⟨rfl, rfl, rfl⟩
theorem andAbsolute (w : Word) : Statement (.andAbsolute w) := ⟨rfl, rfl, rfl⟩
theorem andIndirectIndexed (b : Byte) : Statement (.andIndirectIndexed b) := ⟨rfl, rfl, rfl⟩
theorem andZeroPageX (b : Byte) : Statement (.andZeroPageX b) := ⟨rfl, rfl, rfl⟩
theorem andAbsoluteY (w : Word) : Statement (.andAbsoluteY w) := ⟨rfl, rfl, rfl⟩
theorem andAbsoluteX (w : Word) : Statement (.andAbsoluteX w) := ⟨rfl, rfl, rfl⟩
theorem oraIndexedIndirect (b : Byte) : Statement (.oraIndexedIndirect b) := ⟨rfl, rfl, rfl⟩
theorem oraZeroPage (b : Byte) : Statement (.oraZeroPage b) := ⟨rfl, rfl, rfl⟩
theorem oraImmediate (b : Byte) : Statement (.oraImmediate b) := ⟨rfl, rfl, rfl⟩
theorem oraAbsolute (w : Word) : Statement (.oraAbsolute w) := ⟨rfl, rfl, rfl⟩
theorem oraIndirectIndexed (b : Byte) : Statement (.oraIndirectIndexed b) := ⟨rfl, rfl, rfl⟩
theorem oraZeroPageX (b : Byte) : Statement (.oraZeroPageX b) := ⟨rfl, rfl, rfl⟩
theorem oraAbsoluteY (w : Word) : Statement (.oraAbsoluteY w) := ⟨rfl, rfl, rfl⟩
theorem oraAbsoluteX (w : Word) : Statement (.oraAbsoluteX w) := ⟨rfl, rfl, rfl⟩
theorem eorIndexedIndirect (b : Byte) : Statement (.eorIndexedIndirect b) := ⟨rfl, rfl, rfl⟩
theorem eorZeroPage (b : Byte) : Statement (.eorZeroPage b) := ⟨rfl, rfl, rfl⟩
theorem eorImmediate (b : Byte) : Statement (.eorImmediate b) := ⟨rfl, rfl, rfl⟩
theorem eorAbsolute (w : Word) : Statement (.eorAbsolute w) := ⟨rfl, rfl, rfl⟩
theorem eorIndirectIndexed (b : Byte) : Statement (.eorIndirectIndexed b) := ⟨rfl, rfl, rfl⟩
theorem eorZeroPageX (b : Byte) : Statement (.eorZeroPageX b) := ⟨rfl, rfl, rfl⟩
theorem eorAbsoluteY (w : Word) : Statement (.eorAbsoluteY w) := ⟨rfl, rfl, rfl⟩
theorem eorAbsoluteX (w : Word) : Statement (.eorAbsoluteX w) := ⟨rfl, rfl, rfl⟩
theorem bitZeroPage (b : Byte) : Statement (.bitZeroPage b) := ⟨rfl, rfl, rfl⟩
theorem bitAbsolute (w : Word) : Statement (.bitAbsolute w) := ⟨rfl, rfl, rfl⟩
theorem aslZeroPage (b : Byte) : Statement (.aslZeroPage b) := ⟨rfl, rfl, rfl⟩
theorem aslAccumulator : Statement .aslAccumulator := ⟨rfl, rfl, rfl⟩
theorem aslAbsolute (w : Word) : Statement (.aslAbsolute w) := ⟨rfl, rfl, rfl⟩
theorem aslZeroPageX (b : Byte) : Statement (.aslZeroPageX b) := ⟨rfl, rfl, rfl⟩
theorem aslAbsoluteX (w : Word) : Statement (.aslAbsoluteX w) := ⟨rfl, rfl, rfl⟩
theorem lsrZeroPage (b : Byte) : Statement (.lsrZeroPage b) := ⟨rfl, rfl, rfl⟩
theorem lsrAccumulator : Statement .lsrAccumulator := ⟨rfl, rfl, rfl⟩
theorem lsrAbsolute (w : Word) : Statement (.lsrAbsolute w) := ⟨rfl, rfl, rfl⟩
theorem lsrZeroPageX (b : Byte) : Statement (.lsrZeroPageX b) := ⟨rfl, rfl, rfl⟩
theorem lsrAbsoluteX (w : Word) : Statement (.lsrAbsoluteX w) := ⟨rfl, rfl, rfl⟩
theorem rolZeroPage (b : Byte) : Statement (.rolZeroPage b) := ⟨rfl, rfl, rfl⟩
theorem rolAccumulator : Statement .rolAccumulator := ⟨rfl, rfl, rfl⟩
theorem rolAbsolute (w : Word) : Statement (.rolAbsolute w) := ⟨rfl, rfl, rfl⟩
theorem rolZeroPageX (b : Byte) : Statement (.rolZeroPageX b) := ⟨rfl, rfl, rfl⟩
theorem rolAbsoluteX (w : Word) : Statement (.rolAbsoluteX w) := ⟨rfl, rfl, rfl⟩
theorem rorZeroPage (b : Byte) : Statement (.rorZeroPage b) := ⟨rfl, rfl, rfl⟩
theorem rorAccumulator : Statement .rorAccumulator := ⟨rfl, rfl, rfl⟩
theorem rorAbsolute (w : Word) : Statement (.rorAbsolute w) := ⟨rfl, rfl, rfl⟩
theorem rorZeroPageX (b : Byte) : Statement (.rorZeroPageX b) := ⟨rfl, rfl, rfl⟩
theorem rorAbsoluteX (w : Word) : Statement (.rorAbsoluteX w) := ⟨rfl, rfl, rfl⟩
theorem cmpIndexedIndirect (b : Byte) : Statement (.cmpIndexedIndirect b) := ⟨rfl, rfl, rfl⟩
theorem cmpZeroPage (b : Byte) : Statement (.cmpZeroPage b) := ⟨rfl, rfl, rfl⟩
theorem cmpImmediate (b : Byte) : Statement (.cmpImmediate b) := ⟨rfl, rfl, rfl⟩
theorem cmpAbsolute (w : Word) : Statement (.cmpAbsolute w) := ⟨rfl, rfl, rfl⟩
theorem cmpIndirectIndexed (b : Byte) : Statement (.cmpIndirectIndexed b) := ⟨rfl, rfl, rfl⟩
theorem cmpZeroPageX (b : Byte) : Statement (.cmpZeroPageX b) := ⟨rfl, rfl, rfl⟩
theorem cmpAbsoluteY (w : Word) : Statement (.cmpAbsoluteY w) := ⟨rfl, rfl, rfl⟩
theorem cmpAbsoluteX (w : Word) : Statement (.cmpAbsoluteX w) := ⟨rfl, rfl, rfl⟩
theorem cpxImmediate (b : Byte) : Statement (.cpxImmediate b) := ⟨rfl, rfl, rfl⟩
theorem cpxZeroPage (b : Byte) : Statement (.cpxZeroPage b) := ⟨rfl, rfl, rfl⟩
theorem cpxAbsolute (w : Word) : Statement (.cpxAbsolute w) := ⟨rfl, rfl, rfl⟩
theorem cpyImmediate (b : Byte) : Statement (.cpyImmediate b) := ⟨rfl, rfl, rfl⟩
theorem cpyZeroPage (b : Byte) : Statement (.cpyZeroPage b) := ⟨rfl, rfl, rfl⟩
theorem cpyAbsolute (w : Word) : Statement (.cpyAbsolute w) := ⟨rfl, rfl, rfl⟩
theorem incZeroPage (b : Byte) : Statement (.incZeroPage b) := ⟨rfl, rfl, rfl⟩
theorem incAbsolute (w : Word) : Statement (.incAbsolute w) := ⟨rfl, rfl, rfl⟩
theorem incZeroPageX (b : Byte) : Statement (.incZeroPageX b) := ⟨rfl, rfl, rfl⟩
theorem incAbsoluteX (w : Word) : Statement (.incAbsoluteX w) := ⟨rfl, rfl, rfl⟩
theorem decZeroPage (b : Byte) : Statement (.decZeroPage b) := ⟨rfl, rfl, rfl⟩
theorem decAbsolute (w : Word) : Statement (.decAbsolute w) := ⟨rfl, rfl, rfl⟩
theorem decZeroPageX (b : Byte) : Statement (.decZeroPageX b) := ⟨rfl, rfl, rfl⟩
theorem decAbsoluteX (w : Word) : Statement (.decAbsoluteX w) := ⟨rfl, rfl, rfl⟩
theorem inx : Statement .inx := ⟨rfl, rfl, rfl⟩
theorem iny : Statement .iny := ⟨rfl, rfl, rfl⟩
theorem dex : Statement .dex := ⟨rfl, rfl, rfl⟩
theorem dey : Statement .dey := ⟨rfl, rfl, rfl⟩
theorem bcc (b : Byte) : Statement (.bcc b) := ⟨rfl, rfl, rfl⟩
theorem bcs (b : Byte) : Statement (.bcs b) := ⟨rfl, rfl, rfl⟩
theorem beq (b : Byte) : Statement (.beq b) := ⟨rfl, rfl, rfl⟩
theorem bmi (b : Byte) : Statement (.bmi b) := ⟨rfl, rfl, rfl⟩
theorem bne (b : Byte) : Statement (.bne b) := ⟨rfl, rfl, rfl⟩
theorem bpl (b : Byte) : Statement (.bpl b) := ⟨rfl, rfl, rfl⟩
theorem bvc (b : Byte) : Statement (.bvc b) := ⟨rfl, rfl, rfl⟩
theorem bvs (b : Byte) : Statement (.bvs b) := ⟨rfl, rfl, rfl⟩
theorem jmpAbsolute (w : Word) : Statement (.jmpAbsolute w) := ⟨rfl, rfl, rfl⟩
theorem jmpIndirectAbsolute (w : Word) : Statement (.jmpIndirectAbsolute w) := ⟨rfl, rfl, rfl⟩
theorem jsr (w : Word) : Statement (.jsr w) := ⟨rfl, rfl, rfl⟩
theorem rts : Statement .rts := ⟨rfl, rfl, rfl⟩
theorem brk : Statement .brk := ⟨rfl, rfl, rfl⟩
theorem rti : Statement .rti := ⟨rfl, rfl, rfl⟩
theorem pha : Statement .pha := ⟨rfl, rfl, rfl⟩
theorem php : Statement .php := ⟨rfl, rfl, rfl⟩
theorem pla : Statement .pla := ⟨rfl, rfl, rfl⟩
theorem plp : Statement .plp := ⟨rfl, rfl, rfl⟩
theorem tax : Statement .tax := ⟨rfl, rfl, rfl⟩
theorem tay : Statement .tay := ⟨rfl, rfl, rfl⟩
theorem txa : Statement .txa := ⟨rfl, rfl, rfl⟩
theorem tya : Statement .tya := ⟨rfl, rfl, rfl⟩
theorem tsx : Statement .tsx := ⟨rfl, rfl, rfl⟩
theorem txs : Statement .txs := ⟨rfl, rfl, rfl⟩
theorem clc : Statement .clc := ⟨rfl, rfl, rfl⟩
theorem cld : Statement .cld := ⟨rfl, rfl, rfl⟩
theorem cli : Statement .cli := ⟨rfl, rfl, rfl⟩
theorem clv : Statement .clv := ⟨rfl, rfl, rfl⟩
theorem sec : Statement .sec := ⟨rfl, rfl, rfl⟩
theorem sed : Statement .sed := ⟨rfl, rfl, rfl⟩
theorem sei : Statement .sei := ⟨rfl, rfl, rfl⟩
theorem nop : Statement .nop := ⟨rfl, rfl, rfl⟩
theorem ldaIndexedIndirect (b : Byte) : Statement (.ldaIndexedIndirect b) := ⟨rfl, rfl, rfl⟩
theorem ldaZeroPage (b : Byte) : Statement (.ldaZeroPage b) := ⟨rfl, rfl, rfl⟩
theorem ldaImmediate (b : Byte) : Statement (.ldaImmediate b) := ⟨rfl, rfl, rfl⟩
theorem ldaAbsolute (w : Word) : Statement (.ldaAbsolute w) := ⟨rfl, rfl, rfl⟩
theorem ldaIndirectIndexed (b : Byte) : Statement (.ldaIndirectIndexed b) := ⟨rfl, rfl, rfl⟩
theorem ldaZeroPageX (b : Byte) : Statement (.ldaZeroPageX b) := ⟨rfl, rfl, rfl⟩
theorem ldaAbsoluteY (w : Word) : Statement (.ldaAbsoluteY w) := ⟨rfl, rfl, rfl⟩
theorem ldaAbsoluteX (w : Word) : Statement (.ldaAbsoluteX w) := ⟨rfl, rfl, rfl⟩
theorem ldxImmediate (b : Byte) : Statement (.ldxImmediate b) := ⟨rfl, rfl, rfl⟩
theorem ldxZeroPage (b : Byte) : Statement (.ldxZeroPage b) := ⟨rfl, rfl, rfl⟩
theorem ldxAbsolute (w : Word) : Statement (.ldxAbsolute w) := ⟨rfl, rfl, rfl⟩
theorem ldxZeroPageY (b : Byte) : Statement (.ldxZeroPageY b) := ⟨rfl, rfl, rfl⟩
theorem ldxAbsoluteY (w : Word) : Statement (.ldxAbsoluteY w) := ⟨rfl, rfl, rfl⟩
theorem ldyImmediate (b : Byte) : Statement (.ldyImmediate b) := ⟨rfl, rfl, rfl⟩
theorem ldyZeroPage (b : Byte) : Statement (.ldyZeroPage b) := ⟨rfl, rfl, rfl⟩
theorem ldyAbsolute (w : Word) : Statement (.ldyAbsolute w) := ⟨rfl, rfl, rfl⟩
theorem ldyZeroPageX (b : Byte) : Statement (.ldyZeroPageX b) := ⟨rfl, rfl, rfl⟩
theorem ldyAbsoluteX (w : Word) : Statement (.ldyAbsoluteX w) := ⟨rfl, rfl, rfl⟩
theorem staIndexedIndirect (b : Byte) : Statement (.staIndexedIndirect b) := ⟨rfl, rfl, rfl⟩
theorem staZeroPage (b : Byte) : Statement (.staZeroPage b) := ⟨rfl, rfl, rfl⟩
theorem staAbsolute (w : Word) : Statement (.staAbsolute w) := ⟨rfl, rfl, rfl⟩
theorem staIndirectIndexed (b : Byte) : Statement (.staIndirectIndexed b) := ⟨rfl, rfl, rfl⟩
theorem staZeroPageX (b : Byte) : Statement (.staZeroPageX b) := ⟨rfl, rfl, rfl⟩
theorem staAbsoluteY (w : Word) : Statement (.staAbsoluteY w) := ⟨rfl, rfl, rfl⟩
theorem staAbsoluteX (w : Word) : Statement (.staAbsoluteX w) := ⟨rfl, rfl, rfl⟩
theorem stxZeroPage (b : Byte) : Statement (.stxZeroPage b) := ⟨rfl, rfl, rfl⟩
theorem stxAbsolute (w : Word) : Statement (.stxAbsolute w) := ⟨rfl, rfl, rfl⟩
theorem stxZeroPageY (b : Byte) : Statement (.stxZeroPageY b) := ⟨rfl, rfl, rfl⟩
theorem styZeroPage (b : Byte) : Statement (.styZeroPage b) := ⟨rfl, rfl, rfl⟩
theorem styAbsolute (w : Word) : Statement (.styAbsolute w) := ⟨rfl, rfl, rfl⟩
theorem styZeroPageX (b : Byte) : Statement (.styZeroPageX b) := ⟨rfl, rfl, rfl⟩

end Sys2Proof.Laws.Format
end

