-- ==== Sys2Proof/Tests/Slice0.lean ====
section
/-! SUPPORT. Tests of the model: single steps with the results of 95_test_vectors.md, every opcode of 30_encoding.md R96 written out as bytes,
ill-formed pairings, faults, and a witness for the hypotheses of every obligation that has any. -/

namespace Sys2Proof.Tests

open Sys2Proof.Machine Sys2Proof.Claims

/-! ### Helpers -/

/-- Bytes stored in ascending order from an address on. -/
def put (a : Word) : List Byte → State → State
  | [], t => t
  | b :: more, t => put (a + 1) more (writeByte a b t)

/-- Code stored from PC on, then other cells. -/
def poke (code : List Byte) (cells : List (Word × Byte)) (s : State) : State :=
  cells.foldl (fun t c => writeByte c.1 c.2 t) (put s.pc code s)

/-- One step answers a next state that `p` accepts. -/
def stepsTo (s : State) (p : State → Bool) : Bool :=
  match step s with
  | .next t => p t
  | .fault _ => false
  | .refused _ => false

/-- The registers, P, the cycle count and some cells. -/
def shows (a x y sp : Byte) (pc : Word) (p : Byte) (cyc : Nat) (cells : List (Word × Byte)) (t : State) : Bool :=
  t.a == a && t.x == x && t.y == y && t.sp == sp && t.pc == pc && packP t == p && t.cycles == cyc &&
    cells.all fun c => readByte t c.1 == c.2

/-- The state after Reset entered at 0x0600 with some code there. -/
def loaded (code : List Byte) : State := poke code [] { State.reset with pc := entryPc }

/-! ### Well-formedness: each ill-formed pairing is refused (30_encoding.md R97) -/

theorem test_illformed_adc_implicit : Entry.wellFormed ⟨.adc, .implicit⟩ = false := by decide
theorem test_illformed_adc_accumulator : Entry.wellFormed ⟨.adc, .accumulator⟩ = false := by decide
theorem test_illformed_sta_immediate : Entry.wellFormed ⟨.sta, .immediate⟩ = false := by decide
theorem test_illformed_jmp_immediate : Entry.wellFormed ⟨.jmp, .immediate⟩ = false := by decide
theorem test_illformed_nop_absolute : Entry.wellFormed ⟨.nop, .absolute⟩ = false := by decide
theorem test_illformed_ldy_zeroPageY : Entry.wellFormed ⟨.ldy, .zeroPageY⟩ = false := by decide
theorem test_wellformed_ldx_zeroPageY : Entry.wellFormed ⟨.ldx, .zeroPageY⟩ = true := by decide

/-! ### Decoding: every row of 30_encoding.md R96 written out as bytes, operand bytes 0x42 and 0x10 -/

theorem test_decode_adc : decodeBytes 0x61 0x42 0x10 = some (.adcIndexedIndirect 0x42) ∧
    decodeBytes 0x65 0x42 0x10 = some (.adcZeroPage 0x42) ∧
    decodeBytes 0x69 0x42 0x10 = some (.adcImmediate 0x42) ∧
    decodeBytes 0x6D 0x42 0x10 = some (.adcAbsolute 0x1042) ∧
    decodeBytes 0x71 0x42 0x10 = some (.adcIndirectIndexed 0x42) ∧
    decodeBytes 0x75 0x42 0x10 = some (.adcZeroPageX 0x42) ∧
    decodeBytes 0x79 0x42 0x10 = some (.adcAbsoluteY 0x1042) ∧
    decodeBytes 0x7D 0x42 0x10 = some (.adcAbsoluteX 0x1042) := by decide
theorem test_decode_sbc : decodeBytes 0xE1 0x42 0x10 = some (.sbcIndexedIndirect 0x42) ∧
    decodeBytes 0xE5 0x42 0x10 = some (.sbcZeroPage 0x42) ∧
    decodeBytes 0xE9 0x42 0x10 = some (.sbcImmediate 0x42) ∧
    decodeBytes 0xED 0x42 0x10 = some (.sbcAbsolute 0x1042) ∧
    decodeBytes 0xF1 0x42 0x10 = some (.sbcIndirectIndexed 0x42) ∧
    decodeBytes 0xF5 0x42 0x10 = some (.sbcZeroPageX 0x42) ∧
    decodeBytes 0xF9 0x42 0x10 = some (.sbcAbsoluteY 0x1042) ∧
    decodeBytes 0xFD 0x42 0x10 = some (.sbcAbsoluteX 0x1042) := by decide
theorem test_decode_and : decodeBytes 0x21 0x42 0x10 = some (.andIndexedIndirect 0x42) ∧
    decodeBytes 0x25 0x42 0x10 = some (.andZeroPage 0x42) ∧
    decodeBytes 0x29 0x42 0x10 = some (.andImmediate 0x42) ∧
    decodeBytes 0x2D 0x42 0x10 = some (.andAbsolute 0x1042) ∧
    decodeBytes 0x31 0x42 0x10 = some (.andIndirectIndexed 0x42) ∧
    decodeBytes 0x35 0x42 0x10 = some (.andZeroPageX 0x42) ∧
    decodeBytes 0x39 0x42 0x10 = some (.andAbsoluteY 0x1042) ∧
    decodeBytes 0x3D 0x42 0x10 = some (.andAbsoluteX 0x1042) := by decide
theorem test_decode_ora : decodeBytes 0x01 0x42 0x10 = some (.oraIndexedIndirect 0x42) ∧
    decodeBytes 0x05 0x42 0x10 = some (.oraZeroPage 0x42) ∧
    decodeBytes 0x09 0x42 0x10 = some (.oraImmediate 0x42) ∧
    decodeBytes 0x0D 0x42 0x10 = some (.oraAbsolute 0x1042) ∧
    decodeBytes 0x11 0x42 0x10 = some (.oraIndirectIndexed 0x42) ∧
    decodeBytes 0x15 0x42 0x10 = some (.oraZeroPageX 0x42) ∧
    decodeBytes 0x19 0x42 0x10 = some (.oraAbsoluteY 0x1042) ∧
    decodeBytes 0x1D 0x42 0x10 = some (.oraAbsoluteX 0x1042) := by decide
theorem test_decode_eor : decodeBytes 0x41 0x42 0x10 = some (.eorIndexedIndirect 0x42) ∧
    decodeBytes 0x45 0x42 0x10 = some (.eorZeroPage 0x42) ∧
    decodeBytes 0x49 0x42 0x10 = some (.eorImmediate 0x42) ∧
    decodeBytes 0x4D 0x42 0x10 = some (.eorAbsolute 0x1042) ∧
    decodeBytes 0x51 0x42 0x10 = some (.eorIndirectIndexed 0x42) ∧
    decodeBytes 0x55 0x42 0x10 = some (.eorZeroPageX 0x42) ∧
    decodeBytes 0x59 0x42 0x10 = some (.eorAbsoluteY 0x1042) ∧
    decodeBytes 0x5D 0x42 0x10 = some (.eorAbsoluteX 0x1042) := by decide
theorem test_decode_bit : decodeBytes 0x24 0x42 0x10 = some (.bitZeroPage 0x42) ∧
    decodeBytes 0x2C 0x42 0x10 = some (.bitAbsolute 0x1042) := by decide
theorem test_decode_asl : decodeBytes 0x06 0x42 0x10 = some (.aslZeroPage 0x42) ∧
    decodeBytes 0x0A 0x42 0x10 = some .aslAccumulator ∧
    decodeBytes 0x0E 0x42 0x10 = some (.aslAbsolute 0x1042) ∧
    decodeBytes 0x16 0x42 0x10 = some (.aslZeroPageX 0x42) ∧
    decodeBytes 0x1E 0x42 0x10 = some (.aslAbsoluteX 0x1042) := by decide
theorem test_decode_lsr : decodeBytes 0x46 0x42 0x10 = some (.lsrZeroPage 0x42) ∧
    decodeBytes 0x4A 0x42 0x10 = some .lsrAccumulator ∧
    decodeBytes 0x4E 0x42 0x10 = some (.lsrAbsolute 0x1042) ∧
    decodeBytes 0x56 0x42 0x10 = some (.lsrZeroPageX 0x42) ∧
    decodeBytes 0x5E 0x42 0x10 = some (.lsrAbsoluteX 0x1042) := by decide
theorem test_decode_rol : decodeBytes 0x26 0x42 0x10 = some (.rolZeroPage 0x42) ∧
    decodeBytes 0x2A 0x42 0x10 = some .rolAccumulator ∧
    decodeBytes 0x2E 0x42 0x10 = some (.rolAbsolute 0x1042) ∧
    decodeBytes 0x36 0x42 0x10 = some (.rolZeroPageX 0x42) ∧
    decodeBytes 0x3E 0x42 0x10 = some (.rolAbsoluteX 0x1042) := by decide
theorem test_decode_ror : decodeBytes 0x66 0x42 0x10 = some (.rorZeroPage 0x42) ∧
    decodeBytes 0x6A 0x42 0x10 = some .rorAccumulator ∧
    decodeBytes 0x6E 0x42 0x10 = some (.rorAbsolute 0x1042) ∧
    decodeBytes 0x76 0x42 0x10 = some (.rorZeroPageX 0x42) ∧
    decodeBytes 0x7E 0x42 0x10 = some (.rorAbsoluteX 0x1042) := by decide
theorem test_decode_cmp : decodeBytes 0xC1 0x42 0x10 = some (.cmpIndexedIndirect 0x42) ∧
    decodeBytes 0xC5 0x42 0x10 = some (.cmpZeroPage 0x42) ∧
    decodeBytes 0xC9 0x42 0x10 = some (.cmpImmediate 0x42) ∧
    decodeBytes 0xCD 0x42 0x10 = some (.cmpAbsolute 0x1042) ∧
    decodeBytes 0xD1 0x42 0x10 = some (.cmpIndirectIndexed 0x42) ∧
    decodeBytes 0xD5 0x42 0x10 = some (.cmpZeroPageX 0x42) ∧
    decodeBytes 0xD9 0x42 0x10 = some (.cmpAbsoluteY 0x1042) ∧
    decodeBytes 0xDD 0x42 0x10 = some (.cmpAbsoluteX 0x1042) := by decide
theorem test_decode_cpx : decodeBytes 0xE0 0x42 0x10 = some (.cpxImmediate 0x42) ∧
    decodeBytes 0xE4 0x42 0x10 = some (.cpxZeroPage 0x42) ∧
    decodeBytes 0xEC 0x42 0x10 = some (.cpxAbsolute 0x1042) := by decide
theorem test_decode_cpy : decodeBytes 0xC0 0x42 0x10 = some (.cpyImmediate 0x42) ∧
    decodeBytes 0xC4 0x42 0x10 = some (.cpyZeroPage 0x42) ∧
    decodeBytes 0xCC 0x42 0x10 = some (.cpyAbsolute 0x1042) := by decide
theorem test_decode_inc : decodeBytes 0xE6 0x42 0x10 = some (.incZeroPage 0x42) ∧
    decodeBytes 0xEE 0x42 0x10 = some (.incAbsolute 0x1042) ∧
    decodeBytes 0xF6 0x42 0x10 = some (.incZeroPageX 0x42) ∧
    decodeBytes 0xFE 0x42 0x10 = some (.incAbsoluteX 0x1042) := by decide
theorem test_decode_dec : decodeBytes 0xC6 0x42 0x10 = some (.decZeroPage 0x42) ∧
    decodeBytes 0xCE 0x42 0x10 = some (.decAbsolute 0x1042) ∧
    decodeBytes 0xD6 0x42 0x10 = some (.decZeroPageX 0x42) ∧
    decodeBytes 0xDE 0x42 0x10 = some (.decAbsoluteX 0x1042) := by decide
theorem test_decode_inx : decodeBytes 0xE8 0x42 0x10 = some .inx := by decide
theorem test_decode_iny : decodeBytes 0xC8 0x42 0x10 = some .iny := by decide
theorem test_decode_dex : decodeBytes 0xCA 0x42 0x10 = some .dex := by decide
theorem test_decode_dey : decodeBytes 0x88 0x42 0x10 = some .dey := by decide
theorem test_decode_bcc : decodeBytes 0x90 0x42 0x10 = some (.bcc 0x42) := by decide
theorem test_decode_bcs : decodeBytes 0xB0 0x42 0x10 = some (.bcs 0x42) := by decide
theorem test_decode_beq : decodeBytes 0xF0 0x42 0x10 = some (.beq 0x42) := by decide
theorem test_decode_bmi : decodeBytes 0x30 0x42 0x10 = some (.bmi 0x42) := by decide
theorem test_decode_bne : decodeBytes 0xD0 0x42 0x10 = some (.bne 0x42) := by decide
theorem test_decode_bpl : decodeBytes 0x10 0x42 0x10 = some (.bpl 0x42) := by decide
theorem test_decode_bvc : decodeBytes 0x50 0x42 0x10 = some (.bvc 0x42) := by decide
theorem test_decode_bvs : decodeBytes 0x70 0x42 0x10 = some (.bvs 0x42) := by decide
theorem test_decode_jmp : decodeBytes 0x4C 0x42 0x10 = some (.jmpAbsolute 0x1042) ∧
    decodeBytes 0x6C 0x42 0x10 = some (.jmpIndirectAbsolute 0x1042) := by decide
theorem test_decode_jsr : decodeBytes 0x20 0x42 0x10 = some (.jsr 0x1042) := by decide
theorem test_decode_rts : decodeBytes 0x60 0x42 0x10 = some .rts := by decide
theorem test_decode_brk : decodeBytes 0x00 0x42 0x10 = some .brk := by decide
theorem test_decode_rti : decodeBytes 0x40 0x42 0x10 = some .rti := by decide
theorem test_decode_pha : decodeBytes 0x48 0x42 0x10 = some .pha := by decide
theorem test_decode_php : decodeBytes 0x08 0x42 0x10 = some .php := by decide
theorem test_decode_pla : decodeBytes 0x68 0x42 0x10 = some .pla := by decide
theorem test_decode_plp : decodeBytes 0x28 0x42 0x10 = some .plp := by decide
theorem test_decode_tax : decodeBytes 0xAA 0x42 0x10 = some .tax := by decide
theorem test_decode_tay : decodeBytes 0xA8 0x42 0x10 = some .tay := by decide
theorem test_decode_txa : decodeBytes 0x8A 0x42 0x10 = some .txa := by decide
theorem test_decode_tya : decodeBytes 0x98 0x42 0x10 = some .tya := by decide
theorem test_decode_tsx : decodeBytes 0xBA 0x42 0x10 = some .tsx := by decide
theorem test_decode_txs : decodeBytes 0x9A 0x42 0x10 = some .txs := by decide
theorem test_decode_clc : decodeBytes 0x18 0x42 0x10 = some .clc := by decide
theorem test_decode_cld : decodeBytes 0xD8 0x42 0x10 = some .cld := by decide
theorem test_decode_cli : decodeBytes 0x58 0x42 0x10 = some .cli := by decide
theorem test_decode_clv : decodeBytes 0xB8 0x42 0x10 = some .clv := by decide
theorem test_decode_sec : decodeBytes 0x38 0x42 0x10 = some .sec := by decide
theorem test_decode_sed : decodeBytes 0xF8 0x42 0x10 = some .sed := by decide
theorem test_decode_sei : decodeBytes 0x78 0x42 0x10 = some .sei := by decide
theorem test_decode_nop : decodeBytes 0xEA 0x42 0x10 = some .nop := by decide
theorem test_decode_lda : decodeBytes 0xA1 0x42 0x10 = some (.ldaIndexedIndirect 0x42) ∧
    decodeBytes 0xA5 0x42 0x10 = some (.ldaZeroPage 0x42) ∧
    decodeBytes 0xA9 0x42 0x10 = some (.ldaImmediate 0x42) ∧
    decodeBytes 0xAD 0x42 0x10 = some (.ldaAbsolute 0x1042) ∧
    decodeBytes 0xB1 0x42 0x10 = some (.ldaIndirectIndexed 0x42) ∧
    decodeBytes 0xB5 0x42 0x10 = some (.ldaZeroPageX 0x42) ∧
    decodeBytes 0xB9 0x42 0x10 = some (.ldaAbsoluteY 0x1042) ∧
    decodeBytes 0xBD 0x42 0x10 = some (.ldaAbsoluteX 0x1042) := by decide
theorem test_decode_ldx : decodeBytes 0xA2 0x42 0x10 = some (.ldxImmediate 0x42) ∧
    decodeBytes 0xA6 0x42 0x10 = some (.ldxZeroPage 0x42) ∧
    decodeBytes 0xAE 0x42 0x10 = some (.ldxAbsolute 0x1042) ∧
    decodeBytes 0xB6 0x42 0x10 = some (.ldxZeroPageY 0x42) ∧
    decodeBytes 0xBE 0x42 0x10 = some (.ldxAbsoluteY 0x1042) := by decide
theorem test_decode_ldy : decodeBytes 0xA0 0x42 0x10 = some (.ldyImmediate 0x42) ∧
    decodeBytes 0xA4 0x42 0x10 = some (.ldyZeroPage 0x42) ∧
    decodeBytes 0xAC 0x42 0x10 = some (.ldyAbsolute 0x1042) ∧
    decodeBytes 0xB4 0x42 0x10 = some (.ldyZeroPageX 0x42) ∧
    decodeBytes 0xBC 0x42 0x10 = some (.ldyAbsoluteX 0x1042) := by decide
theorem test_decode_sta : decodeBytes 0x81 0x42 0x10 = some (.staIndexedIndirect 0x42) ∧
    decodeBytes 0x85 0x42 0x10 = some (.staZeroPage 0x42) ∧
    decodeBytes 0x8D 0x42 0x10 = some (.staAbsolute 0x1042) ∧
    decodeBytes 0x91 0x42 0x10 = some (.staIndirectIndexed 0x42) ∧
    decodeBytes 0x95 0x42 0x10 = some (.staZeroPageX 0x42) ∧
    decodeBytes 0x99 0x42 0x10 = some (.staAbsoluteY 0x1042) ∧
    decodeBytes 0x9D 0x42 0x10 = some (.staAbsoluteX 0x1042) := by decide
theorem test_decode_stx : decodeBytes 0x86 0x42 0x10 = some (.stxZeroPage 0x42) ∧
    decodeBytes 0x8E 0x42 0x10 = some (.stxAbsolute 0x1042) ∧
    decodeBytes 0x96 0x42 0x10 = some (.stxZeroPageY 0x42) := by decide
theorem test_decode_sty : decodeBytes 0x84 0x42 0x10 = some (.styZeroPage 0x42) ∧
    decodeBytes 0x8C 0x42 0x10 = some (.styAbsolute 0x1042) ∧
    decodeBytes 0x94 0x42 0x10 = some (.styZeroPageX 0x42) := by decide

/-! ### One step each, the vectors of 95_test_vectors.md -/

/-- "ADC 0x50+0x50 (source example)". -/
theorem test_adcImmediate : stepsTo (poke [0x69, 0x50] []
      { State.reset with pc := 0x0600, a := 0x50 })
    (shows 0xA0 0x00 0x00 0xFF 0x0602 0xF4 2 []) = true := by decide

/-- "ADC carry out, zero". -/
theorem test_adcImmediate_second : stepsTo (poke [0x69, 0x01] []
      { State.reset with pc := 0x0600, a := 0xFF })
    (shows 0x00 0x00 0x00 0xFF 0x0602 0x37 2 []) = true := by decide

/-- "ADC absolute (source encoding 6D 20 10)". -/
theorem test_adcAbsolute : stepsTo (poke [0x6D, 0x20, 0x10] [(0x1020, 0x02)]
      { State.reset with pc := 0x0600, a := 0x01 })
    (shows 0x03 0x00 0x00 0xFF 0x0603 0x34 4 []) = true := by decide

/-- "SBC 0x80-0x01, C=0 (source example)". -/
theorem test_sbcImmediate : stepsTo (poke [0xE9, 0x01] []
      { State.reset with pc := 0x0600, a := 0x80 })
    (shows 0x7E 0x00 0x00 0xFF 0x0602 0x74 2 []) = true := by decide

/-- "SBC 5-3, C=1: C cleared". -/
theorem test_sbcImmediate_second : stepsTo (poke [0xE9, 0x03] []
      { (unpackP 0x37 State.reset) with pc := 0x0600, a := 0x05 })
    (shows 0x02 0x00 0x00 0xFF 0x0602 0x34 2 []) = true := by decide

/-- "AND". -/
theorem test_andImmediate : stepsTo (poke [0x29, 0x3C] []
      { State.reset with pc := 0x0600, a := 0xF0 })
    (shows 0x30 0x00 0x00 0xFF 0x0602 0x34 2 []) = true := by decide

/-- "AND to zero". -/
theorem test_andImmediate_second : stepsTo (poke [0x29, 0x0F] []
      { State.reset with pc := 0x0600, a := 0xF0 })
    (shows 0x00 0x00 0x00 0xFF 0x0602 0x36 2 []) = true := by decide

/-- "ORA sets N". -/
theorem test_oraImmediate : stepsTo (poke [0x09, 0x80] []
      { State.reset with pc := 0x0600, a := 0x0F })
    (shows 0x8F 0x00 0x00 0xFF 0x0602 0xB4 2 []) = true := by decide

/-- "ORA zero". -/
theorem test_oraImmediate_second : stepsTo (poke [0x09, 0x00] []
      { (unpackP 0x34 State.reset) with pc := 0x0600, a := 0x00 })
    (shows 0x00 0x00 0x00 0xFF 0x0602 0x36 2 []) = true := by decide

/-- "EOR complement". -/
theorem test_eorImmediate : stepsTo (poke [0x49, 0xFF] []
      { State.reset with pc := 0x0600, a := 0xAA })
    (shows 0x55 0x00 0x00 0xFF 0x0602 0x34 2 []) = true := by decide

/-- "EOR self". -/
theorem test_eorImmediate_second : stepsTo (poke [0x49, 0xAA] []
      { State.reset with pc := 0x0600, a := 0xAA })
    (shows 0x00 0x00 0x00 0xFF 0x0602 0x36 2 []) = true := by decide

/-- "BIT zp: Z from AND, N V from M". -/
theorem test_bitZeroPage : stepsTo (poke [0x24, 0x10] [(0x0010, 0xC0)]
      { (unpackP 0x34 State.reset) with pc := 0x0600, a := 0x01 })
    (shows 0x01 0x00 0x00 0xFF 0x0602 0xF6 3 []) = true := by decide

/-- "BIT abs: clears N V". -/
theorem test_bitAbsolute : stepsTo (poke [0x2C, 0x00, 0x02] [(0x0200, 0x3F)]
      { (unpackP 0xF4 State.reset) with pc := 0x0600, a := 0xFF })
    (shows 0xFF 0x00 0x00 0xFF 0x0603 0x34 4 []) = true := by decide

/-- "ASL A 0x81". -/
theorem test_aslAccumulator : stepsTo (poke [0x0A] []
      { State.reset with pc := 0x0600, a := 0x81 })
    (shows 0x02 0x00 0x00 0xFF 0x0601 0x35 2 []) = true := by decide

/-- "ASL A 0x80: Z=1 C=1". -/
theorem test_aslAccumulator_second : stepsTo (poke [0x0A] []
      { State.reset with pc := 0x0600, a := 0x80 })
    (shows 0x00 0x00 0x00 0xFF 0x0601 0x37 2 []) = true := by decide

/-- "ASL zp". -/
theorem test_aslZeroPage : stepsTo (poke [0x06, 0x20] [(0x0020, 0x40)]
      { State.reset with pc := 0x0600 })
    (shows 0x00 0x00 0x00 0xFF 0x0602 0xB4 5 [(0x0020, 0x80)]) = true := by decide

/-- "LSR A 0x01". -/
theorem test_lsrAccumulator : stepsTo (poke [0x4A] []
      { State.reset with pc := 0x0600, a := 0x01 })
    (shows 0x00 0x00 0x00 0xFF 0x0601 0x37 2 []) = true := by decide

/-- "LSR zp 0x03". -/
theorem test_lsrZeroPage : stepsTo (poke [0x46, 0x20] [(0x0020, 0x03)]
      { State.reset with pc := 0x0600 })
    (shows 0x00 0x00 0x00 0xFF 0x0602 0x35 5 [(0x0020, 0x01)]) = true := by decide

/-- "ROL A 0x40 C=1". -/
theorem test_rolAccumulator : stepsTo (poke [0x2A] []
      { (unpackP 0x35 State.reset) with pc := 0x0600, a := 0x40 })
    (shows 0x81 0x00 0x00 0xFF 0x0601 0xB4 2 []) = true := by decide

/-- "ROL A 0x80 C=0". -/
theorem test_rolAccumulator_second : stepsTo (poke [0x2A] []
      { (unpackP 0x34 State.reset) with pc := 0x0600, a := 0x80 })
    (shows 0x00 0x00 0x00 0xFF 0x0601 0x37 2 []) = true := by decide

/-- "ROR A 0x02 C=1". -/
theorem test_rorAccumulator : stepsTo (poke [0x6A] []
      { (unpackP 0x35 State.reset) with pc := 0x0600, a := 0x02 })
    (shows 0x81 0x00 0x00 0xFF 0x0601 0xB4 2 []) = true := by decide

/-- "ROR A 0x01 C=0". -/
theorem test_rorAccumulator_second : stepsTo (poke [0x6A] []
      { (unpackP 0x34 State.reset) with pc := 0x0600, a := 0x01 })
    (shows 0x00 0x00 0x00 0xFF 0x0601 0x37 2 []) = true := by decide

/-- "ROR abs,X page cross". -/
theorem test_rorAbsoluteX : stepsTo (poke [0x7E, 0xF0, 0x10] [(0x1110, 0x00)]
      { (unpackP 0x35 State.reset) with pc := 0x0600, x := 0x20 })
    (shows 0x00 0x20 0x00 0xFF 0x0603 0xB4 8 [(0x1110, 0x80)]) = true := by decide

/-- "CMP greater". -/
theorem test_cmpImmediate : stepsTo (poke [0xC9, 0x30] []
      { State.reset with pc := 0x0600, a := 0x40 })
    (shows 0x40 0x00 0x00 0xFF 0x0602 0x35 2 []) = true := by decide

/-- "CMP equal". -/
theorem test_cmpImmediate_second : stepsTo (poke [0xC9, 0x40] []
      { State.reset with pc := 0x0600, a := 0x40 })
    (shows 0x40 0x00 0x00 0xFF 0x0602 0x37 2 []) = true := by decide

/-- "CPX equal". -/
theorem test_cpxImmediate : stepsTo (poke [0xE0, 0x05] []
      { State.reset with pc := 0x0600, x := 0x05 })
    (shows 0x00 0x05 0x00 0xFF 0x0602 0x37 2 []) = true := by decide

/-- "CPY less". -/
theorem test_cpyImmediate : stepsTo (poke [0xC0, 0x02] []
      { State.reset with pc := 0x0600, y := 0x01 })
    (shows 0x00 0x00 0x01 0xFF 0x0602 0xB4 2 []) = true := by decide

/-- "INC zp wrap". -/
theorem test_incZeroPage : stepsTo (poke [0xE6, 0x10] [(0x0010, 0xFF)]
      { (unpackP 0x35 State.reset) with pc := 0x0600 })
    (shows 0x00 0x00 0x00 0xFF 0x0602 0x37 5 [(0x0010, 0x00)]) = true := by decide

/-- "INC zp 7F->80". -/
theorem test_incZeroPage_second : stepsTo (poke [0xE6, 0x10] [(0x0010, 0x7F)]
      { State.reset with pc := 0x0600 })
    (shows 0x00 0x00 0x00 0xFF 0x0602 0xB4 5 [(0x0010, 0x80)]) = true := by decide

/-- "DEC abs 01->00". -/
theorem test_decAbsolute : stepsTo (poke [0xCE, 0x00, 0x02] [(0x0200, 0x01)]
      { (unpackP 0x34 State.reset) with pc := 0x0600 })
    (shows 0x00 0x00 0x00 0xFF 0x0603 0x36 6 [(0x0200, 0x00)]) = true := by decide

/-- "DEC zp 00->FF". -/
theorem test_decZeroPage : stepsTo (poke [0xC6, 0x10] [(0x0010, 0x00)]
      { State.reset with pc := 0x0600 })
    (shows 0x00 0x00 0x00 0xFF 0x0602 0xB4 5 [(0x0010, 0xFF)]) = true := by decide

/-- "INX from reset". -/
theorem test_inx : stepsTo (poke [0xE8] []
      { State.reset with pc := 0x0600 })
    (shows 0x00 0x01 0x00 0xFF 0x0601 0x34 2 []) = true := by decide

/-- "INX wrap". -/
theorem test_inx_second : stepsTo (poke [0xE8] []
      { (unpackP 0x34 State.reset) with pc := 0x0600, x := 0xFF })
    (shows 0x00 0x00 0x00 0xFF 0x0601 0x36 2 []) = true := by decide

/-- "INY 7F->80". -/
theorem test_iny : stepsTo (poke [0xC8] []
      { State.reset with pc := 0x0600, y := 0x7F })
    (shows 0x00 0x00 0x80 0xFF 0x0601 0xB4 2 []) = true := by decide

/-- "DEX 00->FF". -/
theorem test_dex : stepsTo (poke [0xCA] []
      { State.reset with pc := 0x0600, x := 0x00 })
    (shows 0x00 0xFF 0x00 0xFF 0x0601 0xB4 2 []) = true := by decide

/-- "DEY 01->00". -/
theorem test_dey : stepsTo (poke [0x88] []
      { (unpackP 0x34 State.reset) with pc := 0x0600, y := 0x01 })
    (shows 0x00 0x00 0x00 0xFF 0x0601 0x36 2 []) = true := by decide

/-- "BPL taken +1 (source program)". -/
theorem test_bpl : stepsTo (poke [0x10, 0x01] []
      { (unpackP 0x34 State.reset) with pc := 0x0601 })
    (shows 0x00 0x00 0x00 0xFF 0x0604 0x34 3 []) = true := by decide

/-- "BPL not taken". -/
theorem test_bpl_second : stepsTo (poke [0x10, 0x01] []
      { (unpackP 0xB4 State.reset) with pc := 0x0601 })
    (shows 0x00 0x00 0x00 0xFF 0x0603 0xB4 2 []) = true := by decide

/-- "BNE back 5 (b=0x85)". -/
theorem test_bne : stepsTo (poke [0xD0, 0x85] []
      { (unpackP 0x34 State.reset) with pc := 0x0608 })
    (shows 0x00 0x00 0x00 0xFF 0x0605 0x34 3 []) = true := by decide

/-- "BNE b=0xFB as written: -123". -/
theorem test_bne_second : stepsTo (poke [0xD0, 0xFB] []
      { (unpackP 0x34 State.reset) with pc := 0x0608 })
    (shows 0x00 0x00 0x00 0xFF 0x058F 0x34 4 []) = true := by decide

/-- "BEQ b=0x80: displacement 0". -/
theorem test_beq : stepsTo (poke [0xF0, 0x80] []
      { State.reset with pc := 0x0600 })
    (shows 0x00 0x00 0x00 0xFF 0x0602 0x36 3 []) = true := by decide

/-- "BMI forward page cross". -/
theorem test_bmi : stepsTo (poke [0x30, 0x20] []
      { (unpackP 0xB4 State.reset) with pc := 0x06F0 })
    (shows 0x00 0x00 0x00 0xFF 0x0712 0xB4 4 []) = true := by decide

/-- "BVS back page cross". -/
theorem test_bvs : stepsTo (poke [0x70, 0x83] []
      { (unpackP 0x74 State.reset) with pc := 0x0700 })
    (shows 0x00 0x00 0x00 0xFF 0x06FF 0x74 4 []) = true := by decide

/-- "BCC taken +127". -/
theorem test_bcc : stepsTo (poke [0x90, 0x7F] []
      { State.reset with pc := 0x0600 })
    (shows 0x00 0x00 0x00 0xFF 0x0681 0x36 3 []) = true := by decide

/-- "BCS b=0xFF: -127". -/
theorem test_bcs : stepsTo (poke [0xB0, 0xFF] []
      { (unpackP 0x37 State.reset) with pc := 0x0600 })
    (shows 0x00 0x00 0x00 0xFF 0x0583 0x37 4 []) = true := by decide

/-- "BVC wraps top of memory". -/
theorem test_bvc : stepsTo (poke [0x50, 0x10] []
      { State.reset with pc := 0xFFF8 })
    (shows 0x00 0x00 0x00 0xFF 0x000A 0x36 4 []) = true := by decide

/-- "JMP abs". -/
theorem test_jmpAbsolute : stepsTo (poke [0x4C, 0x34, 0x12] []
      { State.reset with pc := 0x0600 })
    (shows 0x00 0x00 0x00 0xFF 0x1234 0x36 3 []) = true := by decide

/-- "JMP (ind)". -/
theorem test_jmpIndirectAbsolute : stepsTo (poke [0x6C, 0x20, 0x01] [(0x0120, 0x34), (0x0121, 0x12)]
      { State.reset with pc := 0x0600 })
    (shows 0x00 0x00 0x00 0xFF 0x1234 0x36 5 []) = true := by decide

/-- "JMP (ind) pointer at xxFF: high from next page". -/
theorem test_jmpIndirectAbsolute_second : stepsTo (poke [0x6C, 0xFF, 0x02] [(0x02FF, 0x34), (0x0300, 0x12), (0x0200, 0x56)]
      { State.reset with pc := 0x0600 })
    (shows 0x00 0x00 0x00 0xFF 0x1234 0x36 5 []) = true := by decide

/-- "JSR". -/
theorem test_jsr : stepsTo (poke [0x20, 0x10, 0x06] []
      { State.reset with pc := 0x0600 })
    (shows 0x00 0x00 0x00 0xFD 0x0610 0x36 6 [(0x01FF, 0x06), (0x01FE, 0x03)]) = true := by decide

/-- "JSR with S=00: stack wrap". -/
theorem test_jsr_second : stepsTo (poke [0x20, 0x10, 0x06] []
      { State.reset with pc := 0x0600, sp := 0x00 })
    (shows 0x00 0x00 0x00 0xFE 0x0610 0x36 6 [(0x0100, 0x06), (0x01FF, 0x03)]) = true := by decide

/-- "RTS". -/
theorem test_rts : stepsTo (poke [0x60] [(0x01FE, 0x03), (0x01FF, 0x06)]
      { State.reset with pc := 0x0610, sp := 0xFD })
    (shows 0x00 0x00 0x00 0xFF 0x0603 0x36 6 []) = true := by decide

/-- "RTS with S=FE: wrap". -/
theorem test_rts_second : stepsTo (poke [0x60] [(0x01FF, 0x03), (0x0100, 0x06)]
      { State.reset with pc := 0x0610, sp := 0xFE })
    (shows 0x00 0x00 0x00 0x00 0x0603 0x36 6 []) = true := by decide

/-- "BRK". -/
theorem test_brk : stepsTo (poke [0x00] [(0xFFFE, 0x00), (0xFFFF, 0x07)]
      { State.reset with pc := 0x0600 })
    (shows 0x00 0x00 0x00 0xFC 0x0700 0x36 7 [(0x01FF, 0x06), (0x01FE, 0x02), (0x01FD, 0x36)]) = true := by decide

/-- "BRK with B=0, C=1". -/
theorem test_brk_second : stepsTo (poke [0x00] [(0xFFFE, 0x00), (0xFFFF, 0x07)]
      { (unpackP 0x25 State.reset) with pc := 0x0600 })
    (shows 0x00 0x00 0x00 0xFC 0x0700 0x35 7 [(0x01FF, 0x06), (0x01FE, 0x02), (0x01FD, 0x25)]) = true := by decide

/-- "RTI". -/
theorem test_rti : stepsTo (poke [0x40] [(0x01FD, 0xC3), (0x01FE, 0x02), (0x01FF, 0x06)]
      { State.reset with pc := 0x0700, sp := 0xFC })
    (shows 0x00 0x00 0x00 0xFF 0x0602 0xE3 6 []) = true := by decide

/-- "PHA". -/
theorem test_pha : stepsTo (poke [0x48] []
      { State.reset with pc := 0x0600, a := 0x42 })
    (shows 0x42 0x00 0x00 0xFE 0x0601 0x36 3 [(0x01FF, 0x42)]) = true := by decide

/-- "PHA at S=00". -/
theorem test_pha_second : stepsTo (poke [0x48] []
      { State.reset with pc := 0x0600, a := 0x42, sp := 0x00 })
    (shows 0x42 0x00 0x00 0xFF 0x0601 0x36 3 [(0x0100, 0x42)]) = true := by decide

/-- "PHP". -/
theorem test_php : stepsTo (poke [0x08] []
      { State.reset with pc := 0x0600 })
    (shows 0x00 0x00 0x00 0xFE 0x0601 0x36 3 [(0x01FF, 0x36)]) = true := by decide

/-- "PLA". -/
theorem test_pla : stepsTo (poke [0x68] [(0x01FF, 0x80)]
      { State.reset with pc := 0x0600, sp := 0xFE })
    (shows 0x80 0x00 0x00 0xFF 0x0601 0xB4 4 []) = true := by decide

/-- "PLA at S=FF wraps to 0100". -/
theorem test_pla_second : stepsTo (poke [0x68] [(0x0100, 0x00)]
      { State.reset with pc := 0x0600, sp := 0xFF })
    (shows 0x00 0x00 0x00 0x00 0x0601 0x36 4 []) = true := by decide

/-- "PLP 0xC3". -/
theorem test_plp : stepsTo (poke [0x28] [(0x01FF, 0xC3)]
      { State.reset with pc := 0x0600, sp := 0xFE })
    (shows 0x00 0x00 0x00 0xFF 0x0601 0xE3 4 []) = true := by decide

/-- "PLP 0x00". -/
theorem test_plp_second : stepsTo (poke [0x28] [(0x01FF, 0x00)]
      { State.reset with pc := 0x0600, sp := 0xFE })
    (shows 0x00 0x00 0x00 0xFF 0x0601 0x20 4 []) = true := by decide

/-- "TAX". -/
theorem test_tax : stepsTo (poke [0xAA] []
      { State.reset with pc := 0x0600, a := 0x80 })
    (shows 0x80 0x80 0x00 0xFF 0x0601 0xB4 2 []) = true := by decide

/-- "TAY zero". -/
theorem test_tay : stepsTo (poke [0xA8] []
      { (unpackP 0x34 State.reset) with pc := 0x0600, a := 0x00 })
    (shows 0x00 0x00 0x00 0xFF 0x0601 0x36 2 []) = true := by decide

/-- "TXA". -/
theorem test_txa : stepsTo (poke [0x8A] []
      { State.reset with pc := 0x0600, x := 0x01 })
    (shows 0x01 0x01 0x00 0xFF 0x0601 0x34 2 []) = true := by decide

/-- "TYA". -/
theorem test_tya : stepsTo (poke [0x98] []
      { State.reset with pc := 0x0600, y := 0xFF })
    (shows 0xFF 0x00 0xFF 0xFF 0x0601 0xB4 2 []) = true := by decide

/-- "TSX". -/
theorem test_tsx : stepsTo (poke [0xBA] []
      { State.reset with pc := 0x0600 })
    (shows 0x00 0xFF 0x00 0xFF 0x0601 0xB4 2 []) = true := by decide

/-- "TXS no flags". -/
theorem test_txs : stepsTo (poke [0x9A] []
      { (unpackP 0x34 State.reset) with pc := 0x0600, x := 0x00 })
    (shows 0x00 0x00 0x00 0x00 0x0601 0x34 2 []) = true := by decide

/-- "CLC". -/
theorem test_clc : stepsTo (poke [0x18] []
      { (unpackP 0x37 State.reset) with pc := 0x0600 })
    (shows 0x00 0x00 0x00 0xFF 0x0601 0x36 2 []) = true := by decide

/-- "SEC". -/
theorem test_sec : stepsTo (poke [0x38] []
      { State.reset with pc := 0x0600 })
    (shows 0x00 0x00 0x00 0xFF 0x0601 0x37 2 []) = true := by decide

/-- "CLD". -/
theorem test_cld : stepsTo (poke [0xD8] []
      { (unpackP 0x3E State.reset) with pc := 0x0600 })
    (shows 0x00 0x00 0x00 0xFF 0x0601 0x36 2 []) = true := by decide

/-- "SED". -/
theorem test_sed : stepsTo (poke [0xF8] []
      { State.reset with pc := 0x0600 })
    (shows 0x00 0x00 0x00 0xFF 0x0601 0x3E 2 []) = true := by decide

/-- "CLI". -/
theorem test_cli : stepsTo (poke [0x58] []
      { State.reset with pc := 0x0600 })
    (shows 0x00 0x00 0x00 0xFF 0x0601 0x32 2 []) = true := by decide

/-- "SEI". -/
theorem test_sei : stepsTo (poke [0x78] []
      { (unpackP 0x32 State.reset) with pc := 0x0600 })
    (shows 0x00 0x00 0x00 0xFF 0x0601 0x36 2 []) = true := by decide

/-- "CLV". -/
theorem test_clv : stepsTo (poke [0xB8] []
      { (unpackP 0x76 State.reset) with pc := 0x0600 })
    (shows 0x00 0x00 0x00 0xFF 0x0601 0x36 2 []) = true := by decide

/-- "NOP". -/
theorem test_nop : stepsTo (poke [0xEA] []
      { State.reset with pc := 0x0600 })
    (shows 0x00 0x00 0x00 0xFF 0x0601 0x36 2 []) = true := by decide

/-- "LDA imm zero". -/
theorem test_ldaImmediate : stepsTo (poke [0xA9, 0x00] []
      { (unpackP 0x34 State.reset) with pc := 0x0600 })
    (shows 0x00 0x00 0x00 0xFF 0x0602 0x36 2 []) = true := by decide

/-- "LDA zp". -/
theorem test_ldaZeroPage : stepsTo (poke [0xA5, 0x10] [(0x0010, 0x99)]
      { State.reset with pc := 0x0600 })
    (shows 0x99 0x00 0x00 0xFF 0x0602 0xB4 3 []) = true := by decide

/-- "LDA zp,X wraps in page 0". -/
theorem test_ldaZeroPageX : stepsTo (poke [0xB5, 0xF0] [(0x0010, 0x77), (0x0110, 0x55)]
      { State.reset with pc := 0x0600, x := 0x20 })
    (shows 0x77 0x20 0x00 0xFF 0x0602 0x34 4 []) = true := by decide

/-- "LDX zp,Y wraps". -/
theorem test_ldxZeroPageY : stepsTo (poke [0xB6, 0xFF] [(0x0001, 0x33)]
      { State.reset with pc := 0x0600, y := 0x02 })
    (shows 0x00 0x33 0x02 0xFF 0x0602 0x34 4 []) = true := by decide

/-- "LDA abs". -/
theorem test_ldaAbsolute : stepsTo (poke [0xAD, 0x34, 0x12] [(0x1234, 0x5A)]
      { State.reset with pc := 0x0600 })
    (shows 0x5A 0x00 0x00 0xFF 0x0603 0x34 4 []) = true := by decide

/-- "LDA abs,X no cross". -/
theorem test_ldaAbsoluteX : stepsTo (poke [0xBD, 0x00, 0x10] [(0x1020, 0x11)]
      { State.reset with pc := 0x0600, x := 0x20 })
    (shows 0x11 0x20 0x00 0xFF 0x0603 0x34 4 []) = true := by decide

/-- "LDA abs,X cross". -/
theorem test_ldaAbsoluteX_second : stepsTo (poke [0xBD, 0xF0, 0x10] [(0x1110, 0x22)]
      { State.reset with pc := 0x0600, x := 0x20 })
    (shows 0x22 0x20 0x00 0xFF 0x0603 0x34 5 []) = true := by decide

/-- "LDA abs,Y wraps 0xFFFF". -/
theorem test_ldaAbsoluteY : stepsTo (poke [0xB9, 0xFF, 0xFF] [(0x0001, 0x44)]
      { State.reset with pc := 0x0600, y := 0x02 })
    (shows 0x44 0x00 0x02 0xFF 0x0603 0x34 5 []) = true := by decide

/-- "LDA (zp,X)". -/
theorem test_ldaIndexedIndirect : stepsTo (poke [0xA1, 0x20] [(0x0024, 0x00), (0x0025, 0x03), (0x0300, 0x66)]
      { State.reset with pc := 0x0600, x := 0x04 })
    (shows 0x66 0x04 0x00 0xFF 0x0602 0x34 6 []) = true := by decide

/-- "LDA (zp,X) pointer at FF wraps". -/
theorem test_ldaIndexedIndirect_second : stepsTo (poke [0xA1, 0xFE] [(0x00FF, 0x00), (0x0000, 0x04), (0x0400, 0x88), (0x0100, 0x09)]
      { State.reset with pc := 0x0600, x := 0x01 })
    (shows 0x88 0x01 0x00 0xFF 0x0602 0xB4 6 []) = true := by decide

/-- "LDA (zp),Y". -/
theorem test_ldaIndirectIndexed : stepsTo (poke [0xB1, 0x40] [(0x0040, 0xF8), (0x0041, 0x02), (0x0308, 0x7E)]
      { State.reset with pc := 0x0600, y := 0x10 })
    (shows 0x7E 0x00 0x10 0xFF 0x0602 0x34 5 []) = true := by decide

/-- "LDA (zp),Y 16-bit wrap". -/
theorem test_ldaIndirectIndexed_second : stepsTo (poke [0xB1, 0x40] [(0x0040, 0xFF), (0x0041, 0xFF), (0x0001, 0x21)]
      { State.reset with pc := 0x0600, y := 0x02 })
    (shows 0x21 0x00 0x02 0xFF 0x0602 0x34 5 []) = true := by decide

/-- "LDY abs,X". -/
theorem test_ldyAbsoluteX : stepsTo (poke [0xBC, 0x00, 0x02] [(0x0201, 0x90)]
      { State.reset with pc := 0x0600, x := 0x01 })
    (shows 0x00 0x01 0x90 0xFF 0x0603 0xB4 4 []) = true := by decide

/-- "STA zp". -/
theorem test_staZeroPage : stepsTo (poke [0x85, 0x10] []
      { State.reset with pc := 0x0600, a := 0x0F })
    (shows 0x0F 0x00 0x00 0xFF 0x0602 0x36 3 [(0x0010, 0x0F)]) = true := by decide

/-- "STA abs,X cross: 5+1". -/
theorem test_staAbsoluteX : stepsTo (poke [0x9D, 0xF0, 0x10] []
      { State.reset with pc := 0x0600, a := 0xAB, x := 0x20 })
    (shows 0xAB 0x20 0x00 0xFF 0x0603 0x36 6 [(0x1110, 0xAB)]) = true := by decide

/-- "STA (zp),Y". -/
theorem test_staIndirectIndexed : stepsTo (poke [0x91, 0x40] [(0x0040, 0x00), (0x0041, 0x03)]
      { State.reset with pc := 0x0600, a := 0xCD, y := 0x01 })
    (shows 0xCD 0x00 0x01 0xFF 0x0602 0x36 6 [(0x0301, 0xCD)]) = true := by decide

/-- "STA (zp,X)". -/
theorem test_staIndexedIndirect : stepsTo (poke [0x81, 0x20] [(0x0024, 0x00), (0x0025, 0x03)]
      { State.reset with pc := 0x0600, a := 0xEE, x := 0x04 })
    (shows 0xEE 0x04 0x00 0xFF 0x0602 0x36 6 [(0x0300, 0xEE)]) = true := by decide

/-- "STX zp,Y". -/
theorem test_stxZeroPageY : stepsTo (poke [0x96, 0xFF] []
      { State.reset with pc := 0x0600, x := 0x01, y := 0x02 })
    (shows 0x00 0x01 0x02 0xFF 0x0602 0x36 4 [(0x0001, 0x01)]) = true := by decide

/-- "STY abs". -/
theorem test_styAbsolute : stepsTo (poke [0x8C, 0x00, 0x02] []
      { State.reset with pc := 0x0600, y := 0x7F })
    (shows 0x00 0x00 0x7F 0xFF 0x0603 0x36 4 [(0x0200, 0x7F)]) = true := by decide

/-- "STA self-modify next opcode". -/
theorem test_staAbsolute : stepsTo (poke [0x8D, 0x03, 0x06] []
      { State.reset with pc := 0x0600, a := 0xEA })
    (shows 0xEA 0x00 0x00 0xFF 0x0603 0x36 4 [(0x0603, 0xEA)]) = true := by decide

/-! ### Faults -/

/-- "the first step after Reset": 70_reset_and_hazards.md R314. -/
theorem test_first_step_after_reset :
    step State.reset = .fault (.invalidOpcode 0xFF { State.reset with pc := 0x0800 }) := rfl

/-- 0x02 is not in 30_encoding.md R96. -/
theorem test_invalid_opcode_02 :
    (match step (loaded [0x02]) with
      | .fault (.invalidOpcode b t) => b == 0x02 && t.pc == 0x0601
      | _ => false) = true := by decide

/-- An instruction the host places runs as the first one after Reset, here `LDA #$80`. -/
theorem test_withFetchWord_runs :
    stepsTo (State.reset.withFetchWord 16 0x80A9) (fun t => t.a == 0x80 && t.pc == 0x0801 && t.flagN) = true := by decide

/-- A byte above `nbits` is zero: `JMP` with one operand byte given. -/
theorem test_decodeTableWord_pads : decodeTableWord 16 0x34424C = some (.jmpAbsolute 0x0042) := by decide

/-- 93_implementation_defined.md U8: a step before the first Reset. -/
theorem test_step_before_reset : step { loaded [0xEA] with wasReset := false } = .refused .beforeReset := rfl

/-- 92_eei_decisions.md D3: PC past 0xFFFF under both settings of PC_WRAP. -/
theorem test_pcWrap_settings :
    advance true 2 { State.reset with pc := 0xFFFE } = .ok { State.reset with pc := 0x0000 } ∧
    advance false 2 { State.reset with pc := 0xFFFE } = .error (.invalidAddress 65536 { State.reset with pc := 0xFFFF }) ∧
    advance false 1 { State.reset with pc := 0xFFFE } = .ok { State.reset with pc := 0xFFFF } := ⟨rfl, rfl, rfl⟩

/-- 92_eei_decisions.md D3: a taken branch past 0xFFFF under both settings of PC_WRAP. -/
theorem test_pcWrap_branch_settings :
    (match takeBranch true 0x10 { State.reset with pc := 0xFFF8 } with
      | .ok t => t.pc == 0x0008
      | .error _ => false) = true ∧
    (match takeBranch false 0x10 { State.reset with pc := 0xFFF8 } with
      | .error (.invalidAddress a t) => a == 65544 && t.pc == 0xFFF8
      | _ => false) = true := by decide

/-- 92_eei_decisions.md D4, D27: an absolute-X sum past 0xFFFF under both settings of ADDR_WRAP. -/
theorem test_addrWrap_settings :
    addrOverrun true (.absoluteX 0xFFFF) { State.reset with x := 0x01 } = none ∧
    addrOverrun false (.absoluteX 0xFFFF) { State.reset with x := 0x01 } = some 65536 ∧
    addrOverrun false (.absoluteX 0xFFFE) { State.reset with x := 0x01 } = none := by decide

/-! ### Witnesses: a concrete state and operands for the hypotheses of each obligation, and for each clause at a boundary -/

theorem witness_EncodeOfDecode : decode [0xFE, 0xFF, 0xFF, 0x00] = .ok (.incAbsoluteX 0xFFFF, [0x00]) := rfl

theorem witness_EncodeOfDecode_oneByte : decode [0x00] = .ok (.brk, []) := rfl

/-- At the top of the address space: opcode at 0xFFFF, operand byte at 0x0000. -/
theorem witness_StepRunsDecodedInstruction :
    let s := poke [0xA9, 0x7F] [] { State.reset with pc := 0xFFFF }
    s.wasReset = true ∧
      decode [readByte s s.pc, readByte s (s.pc + 1), readByte s (s.pc + 2)] = .ok (.ldaImmediate 0x7F, [0xFF]) := ⟨rfl, rfl⟩

theorem witness_InvalidOpcodeFaults : State.reset.wasReset = true ∧ readByte State.reset State.reset.pc ∈ invalidOpcodes := by decide

theorem witness_ValidOpcodeCompletes :
    (loaded [0x00]).wasReset = true ∧ readByte (loaded [0x00]) (loaded [0x00]).pc ∉ invalidOpcodes := by decide

theorem witness_ResetRegisters :
    0x2000 ≤ (0x2000 : Word).toNat ∧ (0x1FFF : Word).toNat < 0x2000 ∧ (0x1FFF : Word) ∉ clearedCells ∧
      readByte State.reset 0x2000 = 0x00 ∧ readByte State.reset 0x1FFF = 0xFF := by decide

theorem witness_ResetMemoryPattern :
    readByte State.reset 0x180F = 0x00 ∧ readByte State.reset 0x1810 = 0xFF ∧ readByte State.reset 0xFFFF = 0x00 := by
  decide

theorem witness_StepKeepsInvariant : (loaded [0xEA]).Inv ∧ ∃ t, step (loaded [0xEA]) = .next t :=
  ⟨by decide, _, rfl⟩

theorem witness_FlagPrimitivesTouchOneBit : Flag.n ≠ Flag.c := by decide

theorem witness_CheckPrimitives_negative : (-1 : Int) < 0 ∧ (checkCarry (-1) State.reset).flagC = false := by decide

theorem witness_CheckPrimitives_boundary :
    (checkCarry 0xFF State.reset).flagC = false ∧ (checkCarry 0x100 State.reset).flagC = true := by decide

theorem witness_StackPrimitives :
    (0x0000 : Word).toNat ≠ 0x0100 + State.reset.sp.toNat ∧ (pop State.reset).2.sp = 0x00 := by decide

theorem witness_ResolverContract_implicit :
    resolve .implicit State.reset = .error (.implicitModeRead State.reset) := rfl

theorem witness_ResolverContract_accumulator : Operand.accumulator ≠ .implicit := by decide

theorem witness_ZeroPageModes : (Instr.ldxZeroPageY 0xFF).mode = .zeroPageY := rfl

theorem witness_AdcAddsWithCarry : (Instr.adcIndirectIndexed 0xFF).operation = .adc := rfl

theorem witness_SbcSubtractsAndClearsCarry : (Instr.sbcAbsoluteX 0xFFFF).operation = .sbc := rfl

theorem witness_LogicalCombinesIntoA :
    ((Instr.andImmediate 0xFF).operation = .and ∧ (· &&& · : Byte → Byte → Byte) = (· &&& ·)) ∧
    (Instr.oraImmediate 0x00).operation = .ora ∧ (Instr.eorImmediate 0xFF).operation = .eor := ⟨⟨rfl, rfl⟩, rfl, rfl⟩

theorem witness_BitTestsMemory : (Instr.bitZeroPage 0xFF).operation = .bit := rfl

theorem witness_CompareFlags :
    comparedRegister State.reset (Instr.cmpImmediate 0x00).operation = some 0x00 ∧
    comparedRegister State.reset (Instr.cpxImmediate 0xFF).operation = some 0x00 ∧
    comparedRegister State.reset (Instr.cpyImmediate 0x01).operation = some 0x00 := by decide

theorem witness_AslShiftsLeft :
    (Instr.aslAccumulator.operation = .asl ∧ Instr.aslAccumulator.operand = .accumulator) ∧
    ((Instr.aslAbsoluteX 0xFFFF).operation = .asl ∧ (Instr.aslAbsoluteX 0xFFFF).operand ≠ .accumulator) := by decide

theorem witness_LsrShiftsRight :
    (Instr.lsrAccumulator.operation = .lsr ∧ Instr.lsrAccumulator.operand = .accumulator) ∧
    ((Instr.lsrZeroPageX 0xFF).operation = .lsr ∧ (Instr.lsrZeroPageX 0xFF).operand ≠ .accumulator) := by decide

theorem witness_RolRotatesLeft :
    (Instr.rolAccumulator.operation = .rol ∧ Instr.rolAccumulator.operand = .accumulator) ∧
    ((Instr.rolAbsolute 0x0000).operation = .rol ∧ (Instr.rolAbsolute 0x0000).operand ≠ .accumulator) := by decide

theorem witness_RorRotatesRight :
    (Instr.rorAccumulator.operation = .ror ∧ Instr.rorAccumulator.operand = .accumulator) ∧
    ((Instr.rorZeroPage 0xFF).operation = .ror ∧ (Instr.rorZeroPage 0xFF).operand ≠ .accumulator) := by decide

theorem witness_IncDecRewriteCell :
    (Instr.incZeroPage 0xFF).operation = .inc ∧ (Instr.decAbsoluteX 0xFFFF).operation = .dec := by decide

/-- Taken with the largest positive displacement, from the page's last bytes. -/
theorem witness_BranchFrame_taken :
    (Instr.bcs 0x7F).operand = .relative 0x7F ∧
      branchCondition { State.reset with flagC := true } (Instr.bcs 0x7F).operation = some true := by decide

theorem witness_BranchFrame_notTaken :
    (Instr.bcs 0x80).operand = .relative 0x80 ∧ branchCondition State.reset (Instr.bcs 0x80).operation = some false := by
  decide

theorem witness_PushInstructions :
    (Instr.pha = .pha ∧ State.reset.a = 0x00) ∧ (Instr.php = .php ∧ packP State.reset = 0x36) := by decide

theorem witness_FlagInstructionsAndNop :
    flagWritten Instr.clv.operation = some (.v, false) ∧ flagWritten Instr.sed.operation = some (.d, true) := by decide

theorem witness_LoadsWriteRegister :
    (Instr.ldaIndexedIndirect 0xFF).operation = .lda ∧ (Instr.ldxZeroPageY 0xFF).operation = .ldx ∧
      (Instr.ldyAbsoluteX 0xFFFF).operation = .ldy := by decide

theorem witness_StoresWriteOneByte :
    storedRegister State.reset (Instr.staAbsoluteY 0xFFFF).operation = some 0x00 ∧
    storedRegister State.reset (Instr.stxZeroPageY 0xFF).operation = some 0x00 ∧
    storedRegister State.reset (Instr.styZeroPage 0x00).operation = some 0x00 := by decide

/-- A holds the opcode of NOP and PC + 3 is past the top of the address space. -/
theorem witness_StoreIsFetchedNext :
    let s := { State.reset with a := 0xEA, pc := 0xFFFD }
    s.wasReset = true ∧ decodeBytes s.a (readByte s (s.pc + 4)) (readByte s (s.pc + 5)) = some .nop := by decide

theorem witness_AccumulatorAccess :
    writesA .inx = false ∧ (∃ t, exec .inx State.reset = .next t) ∧ writesA .tya = true ∧
      (∃ t, exec .tya State.reset = .next t) ∧ readsA .tya = false := ⟨rfl, ⟨_, rfl⟩, rfl, ⟨_, rfl⟩, rfl⟩

theorem witness_IndexRegisterAccess :
    writesX .inx = true ∧ writesY .inx = false ∧ (∃ t, exec .inx State.reset = .next t) ∧ writesX .iny = false ∧
      writesY .iny = true ∧ (∃ t, exec .iny State.reset = .next t) ∧ readsX .tax = false ∧ readsY .tay = false :=
  ⟨rfl, rfl, ⟨_, rfl⟩, rfl, rfl, ⟨_, rfl⟩, rfl, rfl⟩

theorem witness_StackPointerAccess :
    Instr.tsx.operation ≠ .txs ∧ usesStack .tsx = false ∧ (∃ t, exec .tsx State.reset = .next t) ∧
      Instr.txs.operation ≠ .tsx ∧ usesStack .txs = false := ⟨by decide, rfl, ⟨_, rfl⟩, by decide, rfl⟩

theorem witness_FlagAccess :
    (∃ t, exec (.adcImmediate 0xFF) State.reset = .next t) ∧ writesFlag .d (.adcImmediate 0xFF) = false ∧
      readsFlag .d (.adcImmediate 0xFF) = false ∧ readsFlag .c .clc = false ∧ writesFlag .c .clc = true :=
  ⟨⟨_, rfl⟩, rfl, rfl, rfl, rfl⟩

theorem witness_BreakAndOverflowChange :
    (∃ t, exec .brk State.reset = .next t) ∧ Instr.brk.operation ≠ .plp ∧ Instr.brk.operation ≠ .rti ∧
      State.reset.flagB = true ∧ Instr.brk.operation ∉ [Operation.adc, .sbc, .bit, .plp, .rti] ∧
      State.reset.flagV = false ∧ Instr.brk.operation = .brk ∧ Flag.i ≠ .b :=
  ⟨⟨_, rfl⟩, by decide, by decide, rfl, by decide, rfl, rfl, by decide⟩

/-- A byte beside the lowest stack slot, with S at 0x00 so that the pushes wrap. -/
theorem witness_MemoryFrame :
    let s := { State.reset with sp := 0x00 }
    (∃ t, exec .brk s = .next t) ∧ (0x01FD : Word) ∉ storedAddrs .brk s ∧ (0x0200 : Word) ∉ storedAddrs .brk s ∧
      (0x01FE : Word) ∈ storedAddrs .brk s := ⟨⟨_, rfl⟩, by decide, by decide, by decide⟩

theorem witness_SequentialPc :
    let s := { State.reset with pc := 0xFFFF }
    (∃ t, exec (.ldaAbsolute 0x0000) s = .next t) ∧ writesPc (.ldaAbsolute 0x0000) = false := ⟨⟨_, rfl⟩, rfl⟩

/-- The sum 0x02FF + 1 crosses a page, 0x02FE + 1 does not. -/
theorem witness_PenaltyCycles :
    let s := { State.reset with x := 0x01 }
    (∃ t, exec (.staAbsoluteX 0x02FF) s = .next t ∧ t.memCycles = 1) ∧
    (∃ t, exec (.staAbsoluteX 0x02FE) s = .next t ∧ t.memCycles = 0) ∧ (Instr.staAbsoluteX 0x02FF).mode ≠ .relative :=
  ⟨⟨_, rfl, by decide⟩, ⟨_, rfl, by decide⟩, by decide⟩

theorem witness_PlatformInterface_inside :
    ((0 : Int) ≤ 0 ∧ (0 : Int) < 65536) ∧ ((0 : Int) ≤ 65535 ∧ (65535 : Int) < 65536) ∧ (0 : Int) ≠ 65535 := by decide

theorem witness_PlatformInterface_outside :
    ¬((0 : Int) ≤ -1 ∧ (-1 : Int) < 65536) ∧ ¬((0 : Int) ≤ 65536 ∧ (65536 : Int) < 65536) := by decide

theorem witness_StepBeforeResetRefused :
    let s := { State.reset with wasReset := false }
    s.wasReset = false ∧ (∃ t, exec .nop s = .next t) ∧ ∃ t, platformStore 0 0x00 s = .ok t :=
  ⟨rfl, ⟨_, rfl⟩, _, rfl⟩

end Sys2Proof.Tests
end

section
/-! SUPPORT. The flag primitives, the packed status byte and the stack (10_state.md R31 to R37, R41 to R43). -/

namespace Sys2Proof.Proofs

open Sys2Proof.Machine Sys2Proof.Claims

theorem flag_writeFlag (f g : Flag) (v : Bool) (s : State) :
    (writeFlag f v s).flag g = if g = f then v else s.flag g := by
  cases f <;> cases g <;> rfl

theorem writeFlag_writeFlag_flag (f : Flag) (v : Bool) (s : State) : writeFlag f (s.flag f) (writeFlag f v s) = s := by
  cases f <;> rfl

theorem flag_unpackP (v : Byte) (s : State) (f : Flag) : (unpackP v s).flag f = v.getLsbD f.bit := by
  cases f <;> rfl

/-- Bit 5 of P is always 1 (10_state.md R33). -/
theorem packP_getLsbD_five (s : State) : (packP s).getLsbD 5 = true := by
  have bit5 : ∀ n v b d i z c : Bool,
      (BitVec.ofBool n ++ BitVec.ofBool v ++ BitVec.ofBool true ++ BitVec.ofBool b ++ BitVec.ofBool d ++
        BitVec.ofBool i ++ BitVec.ofBool z ++ BitVec.ofBool c).getLsbD 5 = true := by decide
  exact bit5 s.flagN s.flagV s.flagB s.flagD s.flagI s.flagZ s.flagC

/-- Two bytes are equal when they agree at the seven flags' bits and at bit 5. -/
theorem byte_ext {p q : Byte} (hf : ∀ f : Flag, p.getLsbD f.bit = q.getLsbD f.bit)
    (h5 : p.getLsbD 5 = q.getLsbD 5) : p = q := by
  apply BitVec.eq_of_getLsbD_eq
  intro k hk
  interval_cases k
  · exact hf .c
  · exact hf .z
  · exact hf .i
  · exact hf .d
  · exact hf .b
  · exact h5
  · exact hf .v
  · exact hf .n

/-- The mask of a flag's bit has that bit alone. -/
theorem mask_getLsbD (f g : Flag) : ((1 : Byte) <<< f.bit).getLsbD g.bit = decide (g = f) := by
  cases f <;> cases g <;> rfl

theorem mask_getLsbD_five (f : Flag) : ((1 : Byte) <<< f.bit).getLsbD 5 = false := by
  cases f <;> rfl

theorem flag_bit_lt (f : Flag) : f.bit < 8 := by cases f <;> decide

theorem packP_setFlag (f : Flag) (s : State) : packP (setFlag f s) = packP s ||| ((1 : Byte) <<< f.bit) := by
  refine byte_ext (fun g => ?_) ?_
  · rw [BitVec.getLsbD_or, packP_getLsbD, packP_getLsbD, mask_getLsbD, setFlag, flag_writeFlag]
    by_cases h : g = f <;> simp [h]
  · rw [BitVec.getLsbD_or, packP_getLsbD_five, packP_getLsbD_five, Bool.true_or]

theorem packP_clearFlag (f : Flag) (s : State) : packP (clearFlag f s) = packP s &&& ~~~((1 : Byte) <<< f.bit) := by
  refine byte_ext (fun g => ?_) ?_
  · rw [BitVec.getLsbD_and, BitVec.getLsbD_not, packP_getLsbD, packP_getLsbD, mask_getLsbD, clearFlag, flag_writeFlag]
    by_cases h : g = f <;> simp [h, flag_bit_lt]
  · rw [BitVec.getLsbD_and, BitVec.getLsbD_not, packP_getLsbD_five, packP_getLsbD_five, mask_getLsbD_five]
    rfl

/-- Settles O13: a primitive writes one flag, and P is fixed by its flags bit by bit. -/
theorem flagPrimitivesTouchOneBit : Obligations.FlagPrimitivesTouchOneBit := by
  intro f s
  have hother : ∀ (g : Flag) (v : Bool), g ≠ f → (writeFlag f v s).flag g = s.flag g := by
    intro g v hg
    rw [flag_writeFlag, if_neg hg]
  exact ⟨by rw [setFlag, flag_writeFlag, if_pos rfl], by rw [clearFlag, flag_writeFlag, if_pos rfl],
    fun g hg => ⟨hother g true hg, hother g false hg⟩, packP_setFlag f s, packP_clearFlag f s,
    writeFlag_writeFlag_flag f true s, writeFlag_writeFlag_flag f false s⟩

/-- Settles O14: the layout as an identity over the seven booleans. -/
theorem packedStatusLayout : Obligations.PackedStatusLayout := by
  intro s
  have layout : ∀ n v b d i z c : Bool,
      (BitVec.ofBool n ++ BitVec.ofBool v ++ BitVec.ofBool true ++ BitVec.ofBool b ++ BitVec.ofBool d ++
        BitVec.ofBool i ++ BitVec.ofBool z ++ BitVec.ofBool c).toNat =
      2 ^ 7 * n.toNat + 2 ^ 6 * v.toNat + 2 ^ 5 + 2 ^ 4 * b.toNat + 2 ^ 3 * d.toNat + 2 ^ 2 * i.toNat + 2 * z.toNat +
        c.toNat := by decide
  exact layout s.flagN s.flagV s.flagB s.flagD s.flagI s.flagZ s.flagC

theorem packP_unpackP (v : Byte) (s : State) : packP (unpackP v s) = v ||| 0x20 := by
  refine byte_ext (fun f => ?_) ?_
  · have hmask : (0x20 : Byte).getLsbD f.bit = false := by cases f <;> rfl
    rw [packP_getLsbD, flag_unpackP, BitVec.getLsbD_or, hmask, Bool.or_false]
  · have hmask : (0x20 : Byte).getLsbD 5 = true := rfl
    rw [packP_getLsbD_five, BitVec.getLsbD_or, hmask, Bool.or_true]

theorem unpackP_packP (s : State) : unpackP (packP s) s = s :=
  State.ext_fields rfl rfl rfl rfl rfl (packP_getLsbD s .c) (packP_getLsbD s .z) (packP_getLsbD s .i)
    (packP_getLsbD s .d) (packP_getLsbD s .b) (packP_getLsbD s .v) (packP_getLsbD s .n) rfl rfl rfl rfl rfl

/-- Settles O15: P read back bit by bit, and the flags read back from P. -/
theorem unpackedStatus : Obligations.UnpackedStatus := fun v s =>
  ⟨flag_unpackP v s, packP_unpackP v s, unpackP_packP s, rfl⟩

/-- Settles O16: the primitives' own forms, and bit 7 as a residue. -/
theorem checkPrimitives : Obligations.CheckPrimitives := by
  intro v s
  refine ⟨rfl, fun hneg => ?_, rfl, ?_, rfl⟩
  · rw [checkCarry_flagC, decide_eq_false_iff_not]
    omega
  · rw [checkNegative, bit7_eq]

theorem stackAddr_eq_ofNat (sp : Byte) : stackAddr sp = BitVec.ofNat 16 (0x0100 + sp.toNat) := by
  rw [← stackAddr_toNat, BitVec.ofNat_toNat, BitVec.setWidth_eq]

/-- Settles O17, from the law of a read after a push. -/
theorem stackPrimitives : Obligations.StackPrimitives := by
  intro v s
  have hinc : (s.sp + 1).toNat = (s.sp.toNat + 1) % 256 := by simp [BitVec.toNat_add]
  refine ⟨?_, fun b hb => ?_, ?_, rfl, hinc, ?_, rfl⟩
  · rw [← stackAddr_eq_ofNat, readByte_push, if_pos rfl]
  · have hne : b ≠ stackAddr s.sp := by
      rintro rfl
      exact hb (stackAddr_toNat s.sp)
    rw [readByte_push, if_neg hne]
  · have hone : (1 : Byte).toNat = 1 := rfl
    rw [push_sp, BitVec.toNat_sub, hone]
    omega
  · rw [pop_fst, stackAddr_eq_ofNat, hinc]

theorem pop_push_fst (v : Byte) (s : State) : (pop (push v s)).1 = v := by
  rw [pop_fst, push_sp, BitVec.sub_add_cancel, readByte_push, if_pos rfl]

theorem pop_push_sp (v : Byte) (s : State) : (pop (push v s)).2.sp = s.sp := by
  rw [pop_snd_sp, push_sp, BitVec.sub_add_cancel]

/-- A second push goes to another slot, so the byte pushed first is still popped after it. -/
theorem pop_pop_push_push_fst (v w : Byte) (s : State) : (pop (pop (push w (push v s))).2).1 = v := by
  have hne : stackAddr s.sp ≠ stackAddr (s.sp - 1) := by
    rw [Ne, stackAddr_inj]
    bv_omega
  rw [pop_fst, pop_push_sp, push_sp, BitVec.sub_add_cancel, readByte_congr (pop_snd_mem _), readByte_push, push_sp,
    if_neg hne, readByte_push, if_pos rfl]

/-- Settles O18: a push and the pop after it use the same slot, two pushes use two. -/
theorem popReturnsPushed : Obligations.PopReturnsPushed := fun v w s =>
  ⟨pop_push_fst v s, pop_push_sp v s, pop_push_fst v s, rfl, pop_push_fst w _, pop_pop_push_push_fst v w s, by
    rw [pop_snd_sp, pop_push_sp, push_sp, BitVec.sub_add_cancel]⟩

end Sys2Proof.Proofs
end

section
/-! SUPPORT. The next state of every instruction as one total function, `after`, tied to `exec` by `exec_eq_after`: the step
begun, the operand resolved, the operation done on it, the cycles counted (30_encoding.md R100). -/

namespace Sys2Proof.Proofs

open Sys2Proof.Machine Sys2Proof.Claims

/-! ### Every instruction's next state -/

/-- The operand's value in a resolved state (40_addressing_modes.md R137); 0 for an operand without one, which no
operation that consumes a value has. -/
def operandByte (o : Operand) (t : State) : Byte := (operandValue o t).getD 0

/-- The operand's effective address in a resolved state; 0 for an operand without one. -/
def operandPlace (o : Operand) (t : State) : Word := (operandAddr o t).getD 0

/-- A result written back to A where `acc`, else to the cell at `addr` (43_shift_rotate.md R174). -/
def store (acc : Bool) (addr : Word) (v : Byte) (t : State) : State :=
  { t with a := if acc then v else t.a, mem := if acc then t.mem else t.mem.write addr.toNat v }

/-- A branch to `target`, taken where `cond` (46_branch.md R200). -/
def branchTo (cond : Bool) (target : Word) (t : State) : State :=
  { t with
    extraCycles := t.extraCycles + if cond then 1 + (if pageCross t.pc target then 1 else 0) else 0
    pc := if cond then target else t.pc }

/-- What an operation does to the resolved state `t`, given its operand's value `m` and effective address `addr`;
`acc` says that the operand is the accumulator. -/
def effect (op : Operation) (acc : Bool) (m : Byte) (addr : Word) (t : State) : State :=
  match op with
  | .adc =>
    let r : Int := t.a.toNat + m.toNat + flagBit t.flagC
    writeA (BitVec.ofInt 8 r) (checkCarry r (checkOverflowAdd t.a.toNat m.toNat r t))
  | .sbc =>
    let r : Int := t.a.toNat - m.toNat - (1 - flagBit t.flagC)
    writeA (BitVec.ofInt 8 r) (checkCarry r (checkOverflowSub t.a.toNat m.toNat r t))
  | .and => writeA (t.a &&& m) t
  | .ora => writeA (t.a ||| m) t
  | .eor => writeA (t.a ^^^ m) t
  | .bit => { checkZero (t.a &&& m).toNat t with flagN := m.getLsbD 7, flagV := m.getLsbD 6 }
  | .asl =>
    setZN (shiftChecked (aslWide m)) (checkCarry (aslWide m) (store acc addr (BitVec.ofInt 8 (aslWide m)) t))
  | .lsr =>
    setZN (shiftChecked (lsrWide m)) { store acc addr (BitVec.ofInt 8 (lsrWide m)) t with flagC := m.getLsbD 0 }
  | .rol =>
    let r := rolWide m t.flagC
    setZN (shiftChecked r) (checkCarry r (store acc addr (BitVec.ofInt 8 r) t))
  | .ror =>
    let r := rorWide m t.flagC
    setZN (shiftChecked r) { store acc addr (BitVec.ofInt 8 r) t with flagC := m.getLsbD 0 }
  | .cmp => setZN ((t.a.toNat : Int) - m.toNat) { t with flagC := decide ((t.a.toNat : Int) - m.toNat ≥ 0) }
  | .cpx => setZN ((t.x.toNat : Int) - m.toNat) { t with flagC := decide ((t.x.toNat : Int) - m.toNat ≥ 0) }
  | .cpy => setZN ((t.y.toNat : Int) - m.toNat) { t with flagC := decide ((t.y.toNat : Int) - m.toNat ≥ 0) }
  | .inc => setZNByte (m + 1) (writeByte addr (m + 1) t)
  | .dec => setZNByte (m - 1) (writeByte addr (m - 1) t)
  | .inx => inx t
  | .iny => iny t
  | .dex => dex t
  | .dey => dey t
  | .bcc => branchTo (!t.flagC) addr t
  | .bcs => branchTo t.flagC addr t
  | .beq => branchTo t.flagZ addr t
  | .bmi => branchTo t.flagN addr t
  | .bne => branchTo (!t.flagZ) addr t
  | .bpl => branchTo (!t.flagN) addr t
  | .bvc => branchTo (!t.flagV) addr t
  | .bvs => branchTo t.flagV addr t
  | .jmp => { t with pc := addr }
  | .jsr => { pushPc t with pc := addr }
  | .rts => rts t
  | .brk => takeTrap (advancePc brkPcExtra t)
  | .rti => rti t
  | .pha => pha t
  | .php => php t
  | .pla => pla t
  | .plp => plp t
  | .tax => tax t
  | .tay => tay t
  | .txa => txa t
  | .tya => tya t
  | .tsx => tsx t
  | .txs => txs t
  | .clc => clearFlag .c t
  | .cld => clearFlag .d t
  | .cli => clearFlag .i t
  | .clv => clearFlag .v t
  | .sec => setFlag .c t
  | .sed => setFlag .d t
  | .sei => setFlag .i t
  | .nop => nop t
  | .lda => writeA m t
  | .ldx => writeX m t
  | .ldy => writeY m t
  | .sta => writeByte addr t.a t
  | .stx => writeByte addr t.x t
  | .sty => writeByte addr t.y t

/-- What an instruction does to the state its resolver leaves. -/
def effectOf (i : Instr) (t : State) : State :=
  effect i.operation (i.mode == .accumulator) (operandByte i.operand t) (operandPlace i.operand t) t

/-- The state after an instruction: the step begun, the operand resolved, the operation done, the cycles counted
(30_encoding.md R100). -/
def after (i : Instr) (s : State) : State :=
  endStep (baseCycles i) (effectOf i (resolved i.operand (beginStep s)))

/-- An implicit operand takes no bytes and no cycle. -/
theorem resolved_implicit (s : State) : resolved .implicit s = s := by
  simp [resolved, Operand.mode, Mode.operandBytes, pagePenalty]

/-- An operation that consumes a value, on an operand that has one. -/
theorem withValue_eq {o : Operand} {s : State} (h : ∃ m, operandValue o s = some m) (k : Byte → State → State) :
    withValue o s k = .ok (k (operandByte o (resolved o s)) (resolved o s)) := by
  obtain ⟨m, hm⟩ := h
  have hr : operandValue o (resolved o s) = some m := by
    rw [← hm]; exact operandValue_congr (s := resolved o s) (t := s) rfl rfl rfl rfl o
  rw [withValue_ok hm, operandByte, hr, Option.getD_some]

/-- An operation that consumes an address, on an operand that has one. -/
theorem withAddr_eq {o : Operand} {s : State} (h : ∃ addr, operandAddr o (resolved o s) = some addr)
    (k : Word → State → State) :
    withAddr o s k = .ok (k (operandPlace o (resolved o s)) (resolved o s)) := by
  obtain ⟨addr, ha⟩ := h
  rw [withAddr_ok ha, operandPlace, ha, Option.getD_some]

/-- The two places a read-modify-write can write to. -/
theorem writeBack_eq {o : Operand} {t : State} (h : o = .accumulator ∨ ∃ addr, operandAddr o t = some addr)
    (v : Byte) : writeBack o v t = store (o.mode == .accumulator) (operandPlace o t) v t := by
  rcases h with rfl | ⟨addr, ha⟩
  · rfl
  · cases o <;> simp_all [writeBack, operandPlace, operandAddr] <;> rfl

/-- But for immediate, whose place it cannot write, a read-modify-write is an operation on a value. -/
theorem modify_eq_withValue {o : Operand} (h : ∀ b, o ≠ .immediate b) (s : State) (f : Byte → State → Byte)
    (g : Byte → State → State) : Machine.modify o s f g = withValue o s fun v t => g v (writeBack o (f v t) t) := by
  unfold Machine.modify
  split
  · next b => exact absurd rfl (h b)
  · rfl

/-- A read-modify-write, on an operand that has a value and a place. -/
theorem modify_eq {o : Operand} {s : State} (hv : ∃ m, operandValue o s = some m)
    (hp : o = .accumulator ∨ ∃ addr, operandAddr o (resolved o s) = some addr)
    (f : Byte → State → Byte) (g : Byte → State → State) :
    Machine.modify o s f g =
      .ok (g (operandByte o (resolved o s)) (store (o.mode == .accumulator) (operandPlace o (resolved o s))
        (f (operandByte o (resolved o s)) (resolved o s)) (resolved o s))) := by
  have himm : ∀ b, o ≠ .immediate b := by rintro b rfl; simp [operandAddr] at hp
  rw [← writeBack_eq hp, modify_eq_withValue himm]
  exact withValue_eq hv _

/-- A branch, on its relative operand. -/
theorem branch_eq_branchTo (taken : State → Bool) (b : Byte) (s : State) :
    let t := resolved (.relative b) s
    branch taken b s = .ok (branchTo (taken t) (operandPlace (.relative b) t) t) := by
  intro t
  rw [branch_eq]
  show Except.ok (if taken t then _ else t) = _
  cases taken t
  · rfl
  · simp only [if_true, branchTo, Nat.add_assoc]; rfl

/-! ### The pairings of the opcode table -/

/-- The operations that only compute on registers, flags and the stack take no operand. -/
theorem operand_implicit {i : Instr}
    (h : i.operation ∈ [Operation.inx, .iny, .dex, .dey, .rts, .brk, .rti, .pha, .php, .pla, .plp, .tax, .tay, .txa,
      .tya, .tsx, .txs, .clc, .cld, .cli, .clv, .sec, .sed, .sei, .nop]) : i.operand = .implicit := by
  cases i <;> first | (simp [Instr.operation] at h; done) | rfl

/-- A branch has a relative operand. -/
theorem operand_relative {i : Instr}
    (h : i.operation ∈ [Operation.bcc, .bcs, .beq, .bmi, .bne, .bpl, .bvc, .bvs]) :
    i.operand = .relative (relByte i.operand) := by
  cases i <;> first | (simp [Instr.operation] at h; done) | rfl

/-- The operations that consume an address are paired only with modes that have one. -/
theorem operand_hasAddr {i : Instr} (h : i.operation ∈ [Operation.jmp, .jsr, .sta, .stx, .sty]) (s : State) :
    ∃ addr, operandAddr i.operand s = some addr := by
  cases i <;> first | (simp [Instr.operation] at h; done) | simp [Instr.operand, operandAddr]

/-- The read-modify-writes have a place to write to: A or a cell. -/
theorem operand_hasPlace {i : Instr} (h : i.operation ∈ [Operation.asl, .lsr, .rol, .ror, .inc, .dec]) (s : State) :
    i.operand = .accumulator ∨ ∃ addr, operandAddr i.operand s = some addr := by
  by_cases ha : i.operand = .accumulator
  · exact .inl ha
  · exact .inr (hasAddr (by simp_all) ha s).2

/-- INC and DEC never have the accumulator as their operand. -/
theorem mode_ne_accumulator {i : Instr} (h : i.operation ∈ [Operation.inc, .dec]) :
    (i.operand.mode == .accumulator) = false := by
  cases i <;> first | (simp [Instr.operation] at h; done) | rfl

/-- Every instruction's operation answers its effect on the resolved state. -/
theorem bodyOf_eq_effectOf (i : Instr) (s : State) :
    bodyOf i.operation i.operand s = .ok (effectOf i (resolved i.operand s)) := by
  unfold effectOf
  cases hop : i.operation
  case adc | sbc | and | ora | eor | bit | cmp | cpx | cpy | lda | ldx | ldy =>
    exact withValue_eq (hasValue (i := i) (by simp [hop]) s) _
  case inc | dec =>
    have hv := hasValue (i := i) (by simp [hop]) s
    have hp := operand_hasPlace (i := i) (by simp [hop]) (resolved i.operand s)
    simp only [bodyOf, incM, decM, modify_eq hv hp, mode_ne_accumulator (i := i) (by simp [hop])]
    rfl
  case asl | lsr | rol | ror =>
    have hv := hasValue (i := i) (by simp [hop]) s
    have hp := operand_hasPlace (i := i) (by simp [hop]) (resolved i.operand s)
    simp only [bodyOf, asl, lsr, rol, ror, modify_eq hv hp]
    rfl
  case jmp | jsr | sta | stx | sty =>
    exact withAddr_eq (operand_hasAddr (i := i) (by simp [hop]) _) _
  case bcc | bcs | beq | bmi | bne | bpl | bvc | bvs =>
    rw [operand_relative (i := i) (by simp [hop])]
    exact branch_eq_branchTo _ _ s
  all_goals
    rw [operand_implicit (i := i) (by simp [hop]), resolved_implicit]
    rfl

/-- Every instruction completes, in the state `after`. -/
theorem exec_eq_after (i : Instr) (s : State) : exec i s = .next (after i s) :=
  exec_of_body (bodyOf_eq_effectOf i _)

/-- The only next state of an instruction is `after`. -/
theorem eq_after {i : Instr} {s t : State} (h : exec i s = .next t) : t = after i s := by
  rw [exec_eq_after] at h; injection h with h; exact h.symm

end Sys2Proof.Proofs
end

section
/-! SUPPORT. Who writes and who reads A, X, Y, S and the flags (10_state.md R21 to R23, R31): once over `effect`, then through
the frame of the step. -/

namespace Sys2Proof.Proofs

open Sys2Proof.Machine Sys2Proof.Claims

/-- What R21 to R23 and R31 list the writers and readers of: A, X, Y, S and the seven flags. -/
inductive Reg where
  | a | x | y | sp
  | flag (f : Flag)

/-- What a register holds. -/
def Reg.Val : Reg → Type
  | .flag _ => Bool
  | _ => Byte

/-- A register's value. -/
def Reg.get (r : Reg) (s : State) : r.Val :=
  match r with
  | .a => s.a
  | .x => s.x
  | .y => s.y
  | .sp => s.sp
  | .flag f => s.flag f

/-- The state with another value in a register. -/
def Reg.set (r : Reg) (v : r.Val) (s : State) : State :=
  match r, v with
  | .a, v => { s with a := v }
  | .x, v => { s with x := v }
  | .y, v => { s with y := v }
  | .sp, v => { s with sp := v }
  | .flag f, v => writeFlag f v s

/-- The writers of a register. -/
def Reg.writtenBy (r : Reg) (i : Instr) : Bool :=
  match r with
  | .a => writesA i
  | .x => writesX i
  | .y => writesY i
  | .sp => decide (i.operation = .txs) || usesStack i
  | .flag f => writesFlag f i

/-- The readers of a register. -/
def Reg.readBy (r : Reg) (i : Instr) : Bool :=
  match r with
  | .a => readsA i
  | .x => readsX i
  | .y => readsY i
  | .sp => decide (i.operation = .tsx) || usesStack i
  | .flag f => readsFlag f i

/-- The rows of R31's "written by": an instruction that is no writer of a flag leaves it. -/
theorem flag_effect {f : Flag} {i : Instr} (h : writesFlag f i = false) (acc : Bool) (m : Byte) (addr : Word)
    (t : State) : (effect i.operation acc m addr t).flag f = t.flag f := by
  revert h
  cases t
  unfold writesFlag
  cases i.operation
  case plp | rti => cases f <;> exact nofun
  case adc | sbc =>
    cases f
    case c | z | v | n => exact nofun
    all_goals exact fun _ => rfl
  case asl | lsr | rol | ror | cmp | cpx | cpy =>
    cases f
    case c | z | n => exact nofun
    all_goals exact fun _ => rfl
  case bit =>
    cases f
    case z | v | n => exact nofun
    all_goals exact fun _ => rfl
  case lda | ldx | ldy | tax | tay | txa | tya | pla | tsx | inc | dec | inx | iny | dex | dey | and | ora | eor =>
    cases f
    case z | n => exact nofun
    all_goals exact fun _ => rfl
  case clc | sec =>
    cases f
    case c => exact nofun
    all_goals exact fun _ => rfl
  case sei | cli =>
    cases f
    case i => exact nofun
    all_goals exact fun _ => rfl
  case sed | cld =>
    cases f
    case d => exact nofun
    all_goals exact fun _ => rfl
  case brk =>
    cases f
    case b => exact nofun
    all_goals exact fun _ => rfl
  case clv =>
    cases f
    case v => exact nofun
    all_goals exact fun _ => rfl
  all_goals cases f <;> exact fun _ => rfl

/-- An instruction that is no writer of a register leaves it. -/
theorem get_effect {r : Reg} {i : Instr} (h : r.writtenBy i = false) (m : Byte) (addr : Word) (t : State) :
    r.get (effect i.operation (i.mode == .accumulator) m addr t) = r.get t := by
  revert h
  cases t
  cases r with
  | a =>
    unfold Reg.writtenBy writesA
    cases i.operation
    case adc | sbc | and | ora | eor | lda | pla | txa | tya => exact nofun
    case asl | lsr | rol | ror => intro h; rw [show (i.mode == .accumulator) = false from h]; rfl
    all_goals exact fun _ => rfl
  | x =>
    unfold Reg.writtenBy writesX
    cases i.operation
    case ldx | tax | tsx | inx | dex => exact nofun
    all_goals exact fun _ => rfl
  | y =>
    unfold Reg.writtenBy writesY
    cases i.operation
    case ldy | tay | iny | dey => exact nofun
    all_goals exact fun _ => rfl
  | sp =>
    unfold Reg.writtenBy usesStack
    cases i.operation
    case txs | pha | php | pla | plp | jsr | rts | brk | rti => exact nofun
    all_goals exact fun _ => rfl
  | flag f => exact fun h => flag_effect h _ m addr _

/-- The rows of R31's "read by": an instruction that is no reader of a flag carries another value of it through, or
writes over it. -/
theorem effect_writeFlag {f : Flag} {i : Instr} (h : readsFlag f i = false) (v : Bool) (acc : Bool) (m : Byte)
    (addr : Word) (t : State) :
    effect i.operation acc m addr (writeFlag f v t) =
      if writesFlag f i then effect i.operation acc m addr t
      else writeFlag f v (effect i.operation acc m addr t) := by
  revert h
  cases t
  unfold readsFlag writesFlag
  cases i.operation
  case php | brk => exact nofun
  case adc | sbc | rol | ror | bcc | bcs =>
    cases f
    case c => exact nofun
    all_goals exact fun _ => rfl
  case beq | bne =>
    cases f
    case z => exact nofun
    all_goals exact fun _ => rfl
  case bvc | bvs =>
    cases f
    case v => exact nofun
    all_goals exact fun _ => rfl
  case bmi | bpl =>
    cases f
    case n => exact nofun
    all_goals exact fun _ => rfl
  all_goals cases f <;> exact fun _ => rfl

/-- An instruction that is no reader of a register carries another value of it through, or writes over it. -/
theorem effect_set {r : Reg} {i : Instr} (h : r.readBy i = false) (v : r.Val) (m : Byte) (addr : Word) (t : State) :
    effect i.operation (i.mode == .accumulator) m addr (r.set v t) =
      if r.writtenBy i then effect i.operation (i.mode == .accumulator) m addr t
      else r.set v (effect i.operation (i.mode == .accumulator) m addr t) := by
  revert h
  cases t
  cases r with
  | a =>
    unfold Reg.readBy Reg.writtenBy readsA writesA
    cases i.operation
    case adc | sbc | and | ora | eor | bit | cmp | sta | pha | tax | tay => exact nofun
    case asl | lsr | rol | ror => intro h; rw [show (i.mode == .accumulator) = false from h]; rfl
    all_goals exact fun _ => rfl
  | x =>
    unfold Reg.readBy Reg.writtenBy readsX writesX
    cases i.operation
    case stx | txa | txs | cpx | inx | dex => exact nofun
    all_goals exact fun _ => rfl
  | y =>
    unfold Reg.readBy Reg.writtenBy readsY writesY
    cases i.operation
    case sty | tya | cpy | iny | dey => exact nofun
    all_goals exact fun _ => rfl
  | sp =>
    unfold Reg.readBy Reg.writtenBy usesStack
    cases i.operation
    case tsx | pha | php | pla | plp | jsr | rts | brk | rti => exact nofun
    all_goals exact fun _ => rfl
  | flag f => exact fun h => effect_writeFlag h v _ m addr _

/-- The addressing modes that read a register, 10_state.md R21, R22. -/
def Reg.readByMode (r : Reg) (md : Mode) : Bool :=
  match r, md with
  | .a, .accumulator => true
  | .x, .zeroPageX | .x, .absoluteX | .x, .indexedIndirect => true
  | .y, .zeroPageY | .y, .absoluteY | .y, .indirectIndexed => true
  | _, _ => false

/-- An instruction of a mode that reads a register is among the readers of that register. -/
theorem readByMode_of_readBy {r : Reg} {i : Instr} (h : r.readBy i = false) : r.readByMode i.mode = false := by
  cases r with
  | a => cases i <;> first | rfl | exact absurd h (by decide)
  | x =>
    have hm := (Bool.or_eq_false_iff.1 h).2
    revert hm
    cases i.mode
    case zeroPageX | absoluteX | indexedIndirect => exact nofun
    all_goals exact fun _ => rfl
  | y =>
    have hm := (Bool.or_eq_false_iff.1 h).2
    revert hm
    cases i.mode
    case zeroPageY | absoluteY | indirectIndexed => exact nofun
    all_goals exact fun _ => rfl
  | sp => cases i.mode <;> rfl
  | flag f => cases i.mode <;> rfl

/-- A register the mode does not read passes through the resolver. -/
theorem resolve_set {r : Reg} {o : Operand} (h : r.readByMode o.mode = false) (v : r.Val) (s : State) :
    operandByte o (r.set v s) = operandByte o s ∧ operandPlace o (r.set v s) = operandPlace o s ∧
      resolved o (r.set v s) = r.set v (resolved o s) := by
  revert h
  cases s
  cases r with
  | a =>
    cases o
    case accumulator => exact nofun
    all_goals exact fun _ => ⟨rfl, rfl, rfl⟩
  | x =>
    cases o
    case zeroPageX | absoluteX | indexedIndirect => exact nofun
    all_goals exact fun _ => ⟨rfl, rfl, rfl⟩
  | y =>
    cases o
    case zeroPageY | absoluteY | indirectIndexed => exact nofun
    all_goals exact fun _ => ⟨rfl, rfl, rfl⟩
  | sp => cases o <;> exact fun _ => ⟨rfl, rfl, rfl⟩
  | flag f => cases o <;> cases f <;> exact fun _ => ⟨rfl, rfl, rfl⟩

/-! ### The frame of a step touches no register but PC -/

theorem beginStep_set (r : Reg) (v : r.Val) (s : State) : beginStep (r.set v s) = r.set v (beginStep s) := by
  cases r with
  | flag f => cases f <;> rfl
  | _ => rfl

theorem endStep_set (r : Reg) (v : r.Val) (base : Nat) (s : State) :
    endStep base (r.set v s) = r.set v (endStep base s) := by
  cases r with
  | flag f => cases f <;> rfl
  | _ => rfl

theorem get_beginStep (r : Reg) (s : State) : r.get (beginStep s) = r.get s := by
  cases r with
  | flag f => cases f <;> rfl
  | _ => rfl

theorem get_resolved (r : Reg) (o : Operand) (s : State) : r.get (resolved o s) = r.get s := by
  cases r with
  | flag f => cases f <;> rfl
  | _ => rfl

theorem get_endStep (r : Reg) (base : Nat) (s : State) : r.get (endStep base s) = r.get s := by
  cases r with
  | flag f => cases f <;> rfl
  | _ => rfl

/-! ### Writers and readers of a whole instruction -/

/-- The frame of R21 to R23 and R31: an instruction that is no writer of a register leaves it. -/
theorem get_after {r : Reg} {i : Instr} (h : r.writtenBy i = false) (s : State) : r.get (after i s) = r.get s := by
  rw [after, get_endStep, effectOf, get_effect h, get_resolved, get_beginStep]

theorem effectOf_set {r : Reg} {i : Instr} (h : r.readBy i = false) (v : r.Val) (t : State) :
    effectOf i (r.set v t) = if r.writtenBy i then effectOf i t else r.set v (effectOf i t) := by
  obtain ⟨hbyte, hplace, -⟩ := resolve_set (o := i.operand) (readByMode_of_readBy h) v t
  rw [effectOf, hbyte, hplace]
  exact effect_set h v _ _ t

/-- The non-interference of R21 to R23 and R31. -/
theorem exec_set {r : Reg} {i : Instr} (h : r.readBy i = false) (v : r.Val) (s : State) :
    ∃ t, exec i s = .next t ∧ exec i (r.set v s) = .next (if r.writtenBy i then t else r.set v t) := by
  refine ⟨after i s, exec_eq_after i s, ?_⟩
  obtain ⟨-, -, hres⟩ := resolve_set (o := i.operand) (readByMode_of_readBy h) v (beginStep s)
  rw [exec_eq_after, after, beginStep_set, hres, effectOf_set h]
  split
  · rfl
  · rw [endStep_set, after]

end Sys2Proof.Proofs
end

section
/-! SUPPORT. The whole-machine rules of 10_state.md: who writes and who reads each register and flag, and PC. -/

namespace Sys2Proof.Proofs

open Sys2Proof.Machine Sys2Proof.Claims

/-! ### The zero/negative check of a register write -/

/-- Z and N are those of a byte (10_state.md R37). -/
def HasZN (v : Byte) (t : State) : Prop := t.flagZ = decide (v = 0) ∧ t.flagN = v.getLsbD 7

theorem setZNByte_hasZN (v : Byte) (t : State) : HasZN v (setZNByte v t) := by
  refine ⟨?_, ?_⟩
  · rw [setZNByte_flagZ, beq_eq_decide]
  · rw [setZNByte_flagN, getLsbD_seven]

/-- A shift checks its masked result (43_shift_rotate.md R174). -/
theorem setZN_shiftChecked_hasZN (wide : Int) (t : State) :
    HasZN (BitVec.ofInt 8 wide) (setZN (shiftChecked wide) t) := by
  have hmask : shiftChecked wide = wide % 256 := rfl
  refine ⟨?_, ?_⟩
  · rw [setZN_flagZ, hmask, ← ofInt_eq_zero, beq_eq_decide]
  · rw [setZN_flagN, hmask, bit7_eq, getLsbD_seven, msb_ofInt, Int.emod_emod]

/-- Every writer of A checks what it wrote (10_state.md R21): A's own write, or a shift of the accumulator. -/
theorem effect_hasZN_a {i : Instr} (h : writesA i = true) (m : Byte) (addr : Word) (t : State) :
    let u := effect i.operation (i.mode == .accumulator) m addr t
    HasZN u.a u := by
  revert h
  unfold writesA
  cases i.operation
  case adc | sbc | and | ora | eor | lda | pla | txa | tya => exact fun _ => setZNByte_hasZN _ _
  case asl | lsr | rol | ror =>
    intro h
    rw [show (i.mode == .accumulator) = true from h]
    exact setZN_shiftChecked_hasZN _ _
  all_goals exact nofun

/-- Every writer of X checks what it wrote (10_state.md R22). -/
theorem effect_hasZN_x {i : Instr} (h : writesX i = true) (acc : Bool) (m : Byte) (addr : Word) (t : State) :
    let u := effect i.operation acc m addr t
    HasZN u.x u := by
  revert h
  unfold writesX
  cases i.operation
  case ldx | tax | tsx | inx | dex => exact fun _ => setZNByte_hasZN _ _
  all_goals exact nofun

/-- Every writer of Y checks what it wrote (10_state.md R22). -/
theorem effect_hasZN_y {i : Instr} (h : writesY i = true) (acc : Bool) (m : Byte) (addr : Word) (t : State) :
    let u := effect i.operation acc m addr t
    HasZN u.y u := by
  revert h
  unfold writesY
  cases i.operation
  case ldy | tay | iny | dey => exact fun _ => setZNByte_hasZN _ _
  all_goals exact nofun

/-! ### The obligations -/

/-- Settles O50: the frame and the non-interference of A, with the check of each of its writers. -/
theorem accumulatorAccess : Obligations.AccumulatorAccess := by
  refine ⟨fun i s t h => ?_, fun i s v h => exec_set (r := .a) h v s⟩
  obtain rfl := eq_after h
  exact ⟨fun hw => get_after (r := .a) hw s, fun hw => effect_hasZN_a hw _ _ _⟩

/-- Settles O51: the same of X and of Y. -/
theorem indexRegisterAccess : Obligations.IndexRegisterAccess := by
  refine ⟨fun i s t h => ?_, fun i s v h => exec_set (r := .x) h v s, fun i s v h => exec_set (r := .y) h v s⟩
  obtain rfl := eq_after h
  exact ⟨fun hw => get_after (r := .x) hw s, fun hw => effect_hasZN_x hw _ _ _ _,
    fun hw => get_after (r := .y) hw s, fun hw => effect_hasZN_y hw _ _ _ _⟩

/-- Settles O52: the frame and the non-interference of S. -/
theorem stackPointerAccess : Obligations.StackPointerAccess := by
  refine ⟨fun i s t h htxs hstack => ?_, fun i s v htsx hstack => ?_⟩
  · obtain rfl := eq_after h
    exact get_after (r := .sp) (by simp [Reg.writtenBy, htxs, hstack]) s
  · have hw : Reg.sp.writtenBy i = decide (i.operation = .txs) := by simp [Reg.writtenBy, hstack]
    obtain ⟨t, ht, hv⟩ := exec_set (r := .sp) (i := i) (by simp [Reg.readBy, htsx, hstack]) v s
    simp only [hw, decide_eq_true_eq] at hv
    exact ⟨t, ht, hv⟩

/-- Settles O53: the frame and the non-interference of each flag. -/
theorem flagAccess : Obligations.FlagAccess := by
  refine ⟨fun i s t f h hw => ?_, fun i s f v h => exec_set (r := .flag f) h v s⟩
  obtain rfl := eq_after h
  exact get_after (r := .flag f) hw s

/-- Of the writers of B only BRK is neither PLP nor RTI, and it sets B. -/
theorem flagB_stays_set {i : Instr} {s t : State} (h : exec i s = .next t) (hplp : i.operation ≠ .plp)
    (hrti : i.operation ≠ .rti) (hb : s.flagB = true) : t.flagB = true := by
  by_cases hbrk : i.operation = .brk
  · obtain rfl := eq_after h
    simp only [after, effectOf, hbrk]
    rfl
  · rw [← hb]
    exact flagAccess.1 i s t .b h (by simp only [writesFlag])

/-- Settles O54, from the writers of B and V (O53): what BRK and CLV write is known. -/
theorem breakAndOverflowChange : Obligations.BreakAndOverflowChange := by
  intro i s t h
  refine ⟨flagB_stays_set h, fun hop hv => ?_, fun hop f hf => ?_⟩
  · by_cases hclv : i.operation = .clv
    · obtain rfl := eq_after h
      simp only [after, effectOf, hclv]
      rfl
    · rw [← hv]
      exact flagAccess.1 i s t .v h (by simp only [writesFlag]; split <;> simp_all)
  · exact flagAccess.1 i s t f h (by cases f <;> simp_all [writesFlag])

/-- Only the branches and the five instructions of 47_control_flow.md write PC themselves (10_state.md R24). -/
theorem pc_effect {i : Instr} (h : writesPc i = false) (acc : Bool) (m : Byte) (addr : Word) (t : State) :
    (effect i.operation acc m addr t).pc = t.pc := by
  revert h
  cases t
  unfold writesPc
  cases i.operation
  case bcc | bcs | beq | bmi | bne | bpl | bvc | bvs | jmp | jsr | rts | brk | rti => exact nofun
  all_goals exact fun _ => rfl

/-- Settles O56: one increment past the opcode, one past the operand bytes, and none by the operation. -/
theorem sequentialPc : Obligations.SequentialPc := by
  intro i s t h hpc
  obtain rfl := eq_after h
  have hafter : (after i s).pc = s.pc + 1 + BitVec.ofNat 16 i.mode.operandBytes := pc_effect hpc _ _ _ _
  rw [hafter, Instr.length]
  have hone : (1 : Word).toNat = 1 := rfl
  simp only [BitVec.toNat_add, BitVec.toNat_ofNat, hone]
  omega

end Sys2Proof.Proofs
end

section
/-! SUPPORT. What an instruction stores to memory (20_memory.md R61, R66, R67), and what it leaves in the fields no program sees:
the per-step counters, the cycle result, the Reset mark (70_reset_and_hazards.md R320, R321). -/

namespace Sys2Proof.Proofs

open Sys2Proof.Machine Sys2Proof.Claims

/-! ### Stores, in order -/

/-- A memory reached from another by one store to each of the addresses, in their order. -/
inductive Stores : List Word → Memory → Memory → Prop
  | nil {m : Memory} : Stores [] m m
  | cons {addr : Word} {v : Byte} {addrs : List Word} {m m' : Memory} :
    Stores addrs (m.write addr.toNat v) m' → Stores (addr :: addrs) m m'

/-- Every address not stored to reads as before. -/
theorem Stores.read_eq {addrs : List Word} {m m' : Memory} (h : Stores addrs m m') {b : Word} (hb : b ∉ addrs) :
    m'.read b.toNat = m.read b.toNat := by
  induction h with
  | nil => rfl
  | cons _ ih =>
    obtain ⟨hne, hrest⟩ := not_or.1 (mt List.mem_cons.2 hb)
    rw [ih hrest, Memory.read_write, if_neg (mt BitVec.toNat_inj.1 hne)]

/-- A 16-bit address is inside the address space, so stores keep the canonical form. -/
theorem Stores.wf {addrs : List Word} {m m' : Memory} (h : Stores addrs m m') (hm : m.wf) : m'.wf := by
  induction h with
  | nil => exact hm
  | @cons addr v _ _ _ _ ih => exact ih (Memory.wf_write hm addr.isLt v)

/-- A shift or rotate of a cell stores to it, one of A stores nothing. -/
theorem store_stores {o : Operand} {t : State} (h : o = .accumulator ∨ ∃ addr, operandAddr o t = some addr) (v : Byte) :
    Stores (operandAddr o t).toList t.mem (store (o.mode == .accumulator) (operandPlace o t) v t).mem := by
  rw [← writeBack_eq h]
  obtain rfl | ⟨addr, ha⟩ := h
  · exact .nil
  · have hmem : writeBack o v t = writeByte addr v t := by cases o <;> simp_all [writeBack, operandAddr]
    rw [hmem, ha]
    exact .cons .nil

/-- An instruction stores to the addresses of R61, R66, R67 and R41, and to no other. -/
theorem effectOf_stores (i : Instr) (t : State) : Stores (storedAddrs i t) t.mem (effectOf i t).mem := by
  unfold storedAddrs effectOf
  cases hop : i.operation
  case sta | stx | sty =>
    obtain ⟨addr, ha⟩ := operand_hasAddr (i := i) (by simp [hop]) t
    rw [operandPlace, ha]
    exact .cons .nil
  case inc | dec =>
    have hne : i.operand ≠ .accumulator := fun h => by
      simpa [h, Operand.mode] using mode_ne_accumulator (i := i) (by simp [hop])
    obtain ⟨-, addr, ha⟩ := hasAddr (i := i) (by simp [hop]) hne t
    rw [operandPlace, ha]
    exact .cons .nil
  case asl | lsr | rol | ror => exact store_stores (operand_hasPlace (i := i) (by simp [hop]) t) _
  case pha | php => exact .cons .nil
  case jsr => exact .cons (.cons .nil)
  case brk =>
    have hslot : t.sp - 2 = t.sp - 1 - 1 := by bv_omega
    rw [hslot]
    exact .cons (.cons (.cons .nil))
  all_goals exact .nil

/-- The start of a step and the resolver move none of the addresses an instruction stores to. -/
theorem storedAddrs_resolved (i : Instr) (s : State) :
    storedAddrs i (resolved i.operand (beginStep s)) = storedAddrs i s := by
  cases i <;> rfl

/-- The stores of the whole instruction, from the state before it. -/
theorem after_stores (i : Instr) (s : State) : Stores (storedAddrs i s) s.mem (after i s).mem := by
  have h := effectOf_stores i (resolved i.operand (beginStep s))
  rwa [storedAddrs_resolved] at h

/-! ### The counters, the cycle result and the Reset mark -/

/-- A cycle counted under a condition is one cycle at most. -/
theorem cycleIf_le_one (cond : Bool) : (if cond then 1 else 0) ≤ 1 := by
  cases cond <;> decide

/-- The page-cross cycle is one cycle at most (40_addressing_modes.md R129, R130). -/
theorem pagePenalty_le_one (o : Operand) (s : State) : pagePenalty o s ≤ 1 := by
  cases o
  case absoluteX | absoluteY => exact cycleIf_le_one _
  all_goals exact Nat.zero_le 1

theorem effect_memCycles (op : Operation) (acc : Bool) (m : Byte) (addr : Word) (t : State) :
    (effect op acc m addr t).memCycles = t.memCycles := by
  cases t
  cases op <;> rfl

theorem effect_wasReset (op : Operation) (acc : Bool) (m : Byte) (addr : Word) (t : State) :
    (effect op acc m addr t).wasReset = t.wasReset := by
  cases t
  cases op <;> rfl

/-- A branch counts at most two extra cycles (46_branch.md R200). -/
theorem branchTo_extraCycles_le (cond : Bool) (target : Word) (t : State) :
    (branchTo cond target t).extraCycles ≤ t.extraCycles + 2 := by
  have hcross : (if pageCross t.pc target then 1 else 0) ≤ 1 := cycleIf_le_one _
  cases cond
  · exact Nat.le_add_right _ _
  · simp only [branchTo, if_true]
    omega

/-- Only a branch counts extra cycles, two at most. -/
theorem effectOf_extraCycles (i : Instr) (t : State) :
    (effectOf i t).extraCycles ≤ t.extraCycles + 2 ∧
      (i.mode ≠ .relative → (effectOf i t).extraCycles = t.extraCycles) := by
  cases t
  unfold effectOf
  cases hop : i.operation
  case bcc | bcs | beq | bmi | bne | bpl | bvc | bvs =>
    have hmode : i.mode = .relative := by rw [Instr.mode, operand_relative (i := i) (by simp [hop])]; rfl
    exact ⟨branchTo_extraCycles_le _ _ _, fun h => absurd hmode h⟩
  all_goals exact ⟨Nat.le_add_right _ _, fun _ => rfl⟩

theorem baseCycles_bounds (i : Instr) : 2 ≤ baseCycles i ∧ baseCycles i ≤ 7 := by
  unfold baseCycles
  split <;> decide

theorem baseCycles_relative {i : Instr} (h : i.mode = .relative) : baseCycles i = 2 := by
  cases i <;> first | rfl | cases h

theorem after_memCycles (i : Instr) (s : State) : (after i s).memCycles = pagePenalty i.operand s := by
  have heffect : (after i s).memCycles = 0 + pagePenalty i.operand (beginStep s) := effect_memCycles _ _ _ _ _
  rw [heffect, pagePenalty_beginStep, Nat.zero_add]

theorem after_wasReset (i : Instr) (s : State) : (after i s).wasReset = s.wasReset :=
  effect_wasReset _ _ _ _ _

/-- Each counter starts the step at zero (70_reset_and_hazards.md R321). -/
theorem after_extraCycles (i : Instr) (s : State) :
    (after i s).extraCycles ≤ 2 ∧ (i.mode ≠ .relative → (after i s).extraCycles = 0) :=
  effectOf_extraCycles i (resolved i.operand (beginStep s))

theorem after_cycles (i : Instr) (s : State) :
    (after i s).cycles = baseCycles i + (after i s).memCycles + (after i s).extraCycles := rfl

theorem after_memCycles_le (i : Instr) (s : State) : (after i s).memCycles ≤ 1 :=
  after_memCycles i s ▸ pagePenalty_le_one _ _

/-- R320's bounds: extra cycles fall on the branches alone, whose base count is the least (decision D15). -/
theorem after_cycles_bounds (i : Instr) (s : State) : 2 ≤ (after i s).cycles ∧ (after i s).cycles ≤ 8 := by
  have hbase := baseCycles_bounds i
  have hmem := after_memCycles_le i s
  obtain ⟨hextra, hnone⟩ := after_extraCycles i s
  rw [after_cycles]
  by_cases hmode : i.mode = .relative
  · rw [baseCycles_relative hmode]
    omega
  · rw [hnone hmode]
    omega

end Sys2Proof.Proofs
end

section
/-! SUPPORT. The rules of 20_memory.md: the memory interface, the frame of every instruction, a store that the next step
fetches, and the invariant. -/

namespace Sys2Proof.Proofs

open Sys2Proof.Machine Sys2Proof.Claims

/-! ### The step -/

/-- After a Reset the step runs what the three bytes at PC decode to (30_encoding.md R100). -/
theorem step_of_decodeBytes {s : State} {i : Instr} (hreset : s.wasReset = true)
    (h : decodeBytes (readByte s s.pc) (readByte s (s.pc + 1)) (readByte s (s.pc + 2)) = some i) :
    step s = exec i s := by
  simp only [step, fetchInstr, hreset, if_true, startStep_eq, h]

/-- A step that answers a next state ran an instruction. -/
theorem step_next {s t : State} (h : step s = .next t) : ∃ i, exec i s = .next t := by
  unfold step at h
  split at h
  · next i _ => exact ⟨i, h⟩
  · cases h
  · cases h

/-! ### The memory interface -/

theorem platformFetch_inside {address : Int} (h : 0 ≤ address ∧ address < 65536) (s : State) :
    platformFetch address s = .ok (s.mem.read address.toNat) := if_pos h

theorem platformStore_inside {address : Int} (h : 0 ≤ address ∧ address < 65536) (v : Byte) (s : State) :
    platformStore address v s = .ok { s with mem := s.mem.write address.toNat v } := if_pos h

/-! ### The obligations -/

/-- Settles O12: a step is an instruction's, whose stores keep the memory canonical and whose counters are bounded. -/
theorem stepKeepsInvariant : Obligations.StepKeepsInvariant := by
  intro s t ⟨hwf, _, _, _, hreset⟩ h
  obtain ⟨i, hi⟩ := step_next h
  obtain rfl := eq_after hi
  exact ⟨(after_stores i s).wf hwf, after_memCycles_le i s, (after_extraCycles i s).1, .inr (after_cycles_bounds i s),
    (after_wasReset i s).trans hreset⟩

/-- Settles O11: nothing is listed in the memory, and the counters are zero. -/
theorem resetMeetsInvariant : Obligations.ResetMeetsInvariant :=
  ⟨Memory.wf_nil, Nat.zero_le _, Nat.zero_le _, .inl rfl, rfl⟩

/-- Settles O55: what is not stored to reads as before. -/
theorem memoryFrame : Obligations.MemoryFrame := by
  intro i s t h b hb
  obtain rfl := eq_after h
  exact (after_stores i s).read_eq hb

/-- STA absolute stores A at its operand. -/
theorem readByte_after_staAbsolute (w b : Word) (s : State) :
    readByte (after (.staAbsolute w) s) b = if b = w then s.a else readByte s b :=
  readByte_writeByte w b s.a s

/-- Settles O49: the store changes the first of the three bytes the next step fetches, and no other. -/
theorem storeIsFetchedNext : Obligations.StoreIsFetchedNext := by
  intro s i hreset hdec
  have hpc : (after (.staAbsolute (s.pc + 3)) s).pc = s.pc + 3 := BitVec.add_assoc s.pc 1 2
  have hreset' : (after (.staAbsolute (s.pc + 3)) s).wasReset = true := (after_wasReset _ s).trans hreset
  refine ⟨_, exec_eq_after _ s, hpc, step_of_decodeBytes hreset' ?_⟩
  have hne1 : s.pc + 4 ≠ s.pc + 3 := by bv_omega
  have hne2 : s.pc + 5 ≠ s.pc + 3 := by bv_omega
  have h4 : s.pc + 3 + 1 = s.pc + 4 := BitVec.add_assoc s.pc 3 1
  have h5 : s.pc + 3 + 2 = s.pc + 5 := BitVec.add_assoc s.pc 3 2
  simp only [readByte_after_staAbsolute, hpc, h4, h5, if_neg hne1, if_neg hne2, if_true, hdec]

/-- Settles O59: the range check, and a read after a write. -/
theorem platformInterface : Obligations.PlatformInterface := by
  refine ⟨fun address v s h => ⟨⟨_, platformFetch_inside h s⟩, _, platformStore_inside h v s, ?_, rfl, ?_⟩,
    fun address v s h => ⟨if_neg h, if_neg h⟩⟩
  · rw [platformFetch_inside h, Memory.read_write, if_pos rfl]
  · intro other hne hother
    have hne' : other.toNat ≠ address.toNat := by omega
    rw [platformFetch_inside hother, platformFetch_inside hother, Memory.read_write, if_neg hne']

end Sys2Proof.Proofs
end

section
/-! SUPPORT. The decoder and the encoder (30_encoding.md R90 to R100). `Reads` says once which operand bytes complete a form to
an instruction; the decoder finds a row and reads its operand, every row reads what `encode` writes, every instruction is
read by some row, and the bytes without a row are the 105 of R98. -/

namespace Sys2Proof.Proofs

open Sys2Proof.Machine Sys2Proof.Claims

/-! ### The decoder by the form it finds -/

/-- The operand bytes with which a form makes an instruction, in ascending address order, a word's low byte first
(30_encoding.md R91, R92). -/
inductive Reads : Form → Instr → List Byte → Prop
  | f1 (i : Instr) : Reads (.f1 i) i []
  | f2 (mk : Byte → Instr) (b : Byte) : Reads (.f2 mk) (mk b) [b]
  | f3 (mk : Word → Instr) (w : Word) : Reads (.f3 mk) (mk w) [loByte w, hiByte w]

theorem Reads.f3_word (mk : Word → Instr) (lo hi : Byte) : Reads (.f3 mk) (mk (word hi lo)) [lo, hi] := by
  simpa using Reads.f3 mk (word hi lo)

/-- The form of the opcode byte reads its operand, and the bytes after it are left over. -/
theorem decode_of_reads {op : Byte} {f : Form} {i : Instr} {operand : List Byte} (hf : lookup op = some f)
    (hr : Reads f i operand) (rest : List Byte) : decode (op :: operand ++ rest) = .ok (i, rest) := by
  cases hr with
  | f1 => simp [decode, hf]
  | f2 => simp [decode, hf]
  | f3 => simp [decode, hf]

/-- Bytes that decode are an opcode byte, the operand its form reads, and the bytes left over. -/
theorem reads_of_decode {bytes rest : List Byte} {i : Instr} (h : decode bytes = .ok (i, rest)) :
    ∃ op f operand, bytes = op :: operand ++ rest ∧ lookup op = some f ∧ Reads f i operand := by
  cases bytes with
  | nil => cases h
  | cons op tail =>
    cases hf : lookup op with
    | none => simp [decode, hf] at h
    | some f =>
      cases f with
      | f1 =>
        simp only [decode, hf] at h
        cases h
        exact ⟨op, _, [], rfl, hf, .f1 _⟩
      | f2 =>
        match tail with
        | [] => simp [decode, hf] at h
        | b :: _ =>
          simp only [decode, hf] at h
          cases h
          exact ⟨op, _, [b], rfl, hf, .f2 _ b⟩
      | f3 =>
        match tail with
        | [] | [_] => simp [decode, hf] at h
        | lo :: hi :: _ =>
          simp only [decode, hf] at h
          cases h
          exact ⟨op, _, [lo, hi], rfl, hf, .f3_word _ lo hi⟩

/-- The step's decoder over three bytes agrees with the decoder over a list. -/
theorem decodeBytes_of_decode {op lo hi : Byte} {i : Instr} {rest : List Byte} (h : decode [op, lo, hi] = .ok (i, rest)) :
    decodeBytes op lo hi = some i := by
  obtain ⟨_, f, operand, hbytes, hf, hr⟩ := reads_of_decode h
  cases hr <;> cases hbytes <;> simp [decodeBytes, hf, Form.build]

/-! ### The opcode table against the encoder -/

/-- What a row of the table reads is encoded by the row's opcode byte and the operand read. -/
theorem encode_of_mem_opcodeTable :
    ∀ r ∈ opcodeTable, ∀ (i : Instr) (operand : List Byte), Reads r.form i operand → encode i = r.opcode :: operand := by
  rw [← List.forall_iff_forall_mem]
  repeat' apply And.intro
  all_goals
    rintro _ _ ⟨⟩
    rfl

/-- `P` of every instruction a form makes, for any operand. -/
def AllMade (P : Instr → Prop) : Form → Prop
  | .f1 i => P i
  | .f2 mk => ∀ b, P (mk b)
  | .f3 mk => ∀ w, P (mk w)

theorem allMade_of_reads {P : Instr → Prop} {f : Form} (h : ∀ (i : Instr) (operand : List Byte), Reads f i operand → P i) :
    AllMade P f := by
  cases f with
  | f1 i => exact h _ _ (.f1 i)
  | f2 mk => exact fun b => h _ _ (.f2 mk b)
  | f3 mk => exact fun w => h _ _ (.f3 mk w)

/-- Some row reads each instruction (30_encoding.md R96): what holds of all that the rows read holds of every instruction. -/
theorem forall_instr_of_rows {P : Instr → Prop}
    (row : ∀ r ∈ opcodeTable, ∀ (i : Instr) (operand : List Byte), Reads r.form i operand → P i) (i : Instr) : P i := by
  have hrows : opcodeTable.Forall fun r => AllMade P r.form :=
    List.forall_iff_forall_mem.2 fun r hr => allMade_of_reads (row r hr)
  simp only [opcodeTable, opcodeRows0, opcodeRows1, opcodeRows2, opcodeRows3, opcodeRows4, opcodeRows5, opcodeRows6,
    opcodeRows7, opcodeRows8, opcodeRows9, opcodeRowsA, opcodeRowsB, opcodeRowsC, opcodeRowsD, opcodeRowsE, opcodeRowsF,
    List.cons_append, List.nil_append, List.Forall, AllMade] at hrows
  cases i <;> simp only [hrows]

/-! ### The bytes without a row -/

/-- A set of bytes as a number: bit `b` is set for each byte `b` of the list. -/
def bitmap : List Byte → Nat
  | [] => 0
  | b :: rest => 2 ^ b.toNat ||| bitmap rest

theorem testBit_bitmap (op : Byte) (bytes : List Byte) : (bitmap bytes).testBit op.toNat = decide (op ∈ bytes) := by
  induction bytes with
  | nil => simp [bitmap]
  | cons b rest ih => simp [bitmap, ih, Nat.testBit_two_pow, BitVec.toNat_inj, eq_comm]

/-- The opcodes of the table and the 105 others fill the byte, without an overlap. -/
theorem bitmap_opcodeTable_xor : bitmap (opcodeTable.map Slot.opcode) ^^^ bitmap invalidOpcodes = 2 ^ 256 - 1 := by
  decide +kernel

/-- A byte is an opcode of the table or one of the 105, never both. -/
theorem mem_opcodes_iff (op : Byte) : op ∈ opcodeTable.map Slot.opcode ↔ op ∉ invalidOpcodes := by
  have hbit := congrArg (Nat.testBit · op.toNat) bitmap_opcodeTable_xor
  simp only [Nat.testBit_xor, testBit_bitmap, Nat.testBit_two_pow_sub_one] at hbit
  have hlt : op.toNat < 256 := op.isLt
  by_cases h : op ∈ invalidOpcodes <;> simpa [h, hlt] using hbit

/-- The opcodes without a row are the 105 of 30_encoding.md R98. -/
theorem lookup_eq_none {op : Byte} : lookup op = none ↔ op ∈ invalidOpcodes := by
  rw [← not_iff_not, ← mem_opcodes_iff, ← ne_eq, Option.ne_none_iff_exists', List.mem_map]
  constructor
  · rintro ⟨f, hf⟩
    exact ⟨⟨op, f⟩, lookup_eq_some.1 hf, rfl⟩
  · rintro ⟨r, hr, rfl⟩
    exact ⟨r.form, lookup_eq_some.2 hr⟩

/-! ### The obligations -/

/-- Settles O1: some row reads the instruction, and its opcode and operand are the instruction's bytes. -/
theorem decodeOfEncode : Obligations.DecodeOfEncode := by
  intro i rest
  induction i using forall_instr_of_rows with
  | row r hr i operand hreads =>
    rw [encode_of_mem_opcodeTable r hr i operand hreads]
    exact decode_of_reads (lookup_eq_some.2 hr) hreads rest

/-- Settles O2: the bytes are an opcode and an operand its row reads, which is the encoding of what the row makes of them. -/
theorem encodeOfDecode : Obligations.EncodeOfDecode := by
  intro bytes rest i h
  obtain ⟨op, f, operand, rfl, hf, hr⟩ := reads_of_decode h
  rw [encode_of_mem_opcodeTable ⟨op, f⟩ (lookup_eq_some.1 hf) i operand hr]

/-- Settles O6: a byte outside the list has a row, and every instruction completes. -/
theorem validOpcodeCompletes : Obligations.ValidOpcodeCompletes := by
  intro s hreset hvalid
  obtain ⟨f, hf⟩ := Option.ne_none_iff_exists'.1 (mt lookup_eq_none.1 hvalid)
  have hdec : decodeBytes (readByte s s.pc) (readByte s (s.pc + 1)) (readByte s (s.pc + 2)) =
      some (f.build (readByte s (s.pc + 1)) (readByte s (s.pc + 2))) := by rw [decodeBytes, hf, Option.map_some]
  exact ⟨_, (step_of_decodeBytes hreset hdec).trans (exec_eq_after _ s)⟩

/-- Settles O3: the table is looked up at ten rows and at one invalid byte. -/
theorem tableWordsDecode : Obligations.TableWordsDecode :=
  ⟨rfl, rfl, rfl, rfl, rfl, rfl, rfl, rfl, rfl, rfl, rfl⟩

/-- Settles O4: the decoder over the three bytes at PC is the step's own. -/
theorem stepRunsDecodedInstruction : Obligations.StepRunsDecodedInstruction :=
  fun _ _ _ hreset hdec => step_of_decodeBytes hreset (decodeBytes_of_decode hdec)

end Sys2Proof.Proofs
end

section
/-! SUPPORT. The addressing modes (40_addressing_modes.md R120 to R136): bytes and words as numbers, the zero-page and the
indirect-absolute pointer, the page-cross cycle, and the state the resolver leaves. -/

namespace Sys2Proof.Proofs

open Sys2Proof.Machine Sys2Proof.Claims

/-! ### Bytes and words as numbers -/

theorem toNat_word (hi lo : Byte) : (word hi lo).toNat = hi.toNat * 256 + lo.toNat := by
  rw [word, BitVec.toNat_append, ← Nat.shiftLeft_add_eq_or_of_lt lo.isLt, Nat.shiftLeft_eq]

theorem toNat_zext (b : Byte) : (zext b).toNat = b.toNat :=
  BitVec.toNat_setWidth_of_le (by decide)

theorem toNat_hiByte (w : Word) : (hiByte w).toNat = w.toNat / 256 := by
  rw [hiByte, BitVec.extractLsb'_toNat, Nat.shiftRight_eq_div_pow]
  omega

/-- A zero-extended byte is its value as an address, so it lies in page 0. -/
theorem zext_eq_ofNat (b : Byte) : zext b = BitVec.ofNat 16 b.toNat :=
  (BitVec.ofNat_toNat 16 b).symm

theorem zext_add_eq_ofNat (b x : Byte) : zext (b + x) = BitVec.ofNat 16 ((b.toNat + x.toNat) % 256) :=
  zext_eq_ofNat (b + x)

theorem toNat_add_zext (w : Word) (x : Byte) : (w + zext x).toNat = (w.toNat + x.toNat) % 65536 := by
  rw [BitVec.toNat_add, toNat_zext]

theorem add_one_eq_ofNat (w : Word) : w + 1 = BitVec.ofNat 16 ((w.toNat + 1) % 65536) := by
  bv_omega

/-! ### The pointers -/

/-- A zero-page pointer's second byte wraps in page 0 (decision D5). -/
theorem toNat_zpWord (ptr : Byte) (s : State) :
    (zpWord ptr s).toNat = (readByte s (BitVec.ofNat 16 ((ptr.toNat + 1) % 256))).toNat * 256 +
      (readByte s (BitVec.ofNat 16 ptr.toNat)).toNat := by
  have hhigh : zpPtrHigh ptr = BitVec.ofNat 16 ((ptr.toNat + 1) % 256) := zext_add_eq_ofNat ptr 1
  rw [zpWord, toNat_word, hhigh, zext_eq_ofNat]

/-- An indirect-absolute pointer's second byte wraps at the end of memory and not in its page (decision D6). -/
theorem toNat_absWord (ptr : Word) (s : State) :
    (absWord ptr s).toNat =
      (readByte s (BitVec.ofNat 16 ((ptr.toNat + 1) % 65536))).toNat * 256 + (readByte s ptr).toNat := by
  have hhigh : absPtrHigh ptr = BitVec.ofNat 16 ((ptr.toNat + 1) % 65536) := add_one_eq_ofNat ptr
  rw [absWord, toNat_word, hhigh]

/-! ### The resolver -/

/-- A mode without a page-cross cycle advances PC and changes nothing else. -/
theorem resolve_of_pagePenalty_eq_zero {o : Operand} {s : State} (ho : o ≠ .implicit) (h : pagePenalty o s = 0) :
    resolve o s = .ok { s with pc := s.pc + BitVec.ofNat 16 o.mode.operandBytes } := by
  rw [resolve_ok ho, resolved, h, Nat.add_zero]

/-- The page-cross cycle (40_addressing_modes.md R136) by the quotients of the two addresses. -/
theorem pageCross_cycle (a b : Word) :
    (if pageCross a b then 1 else 0) = if b.toNat / 256 = a.toNat / 256 then 0 else 1 := by
  have hpage : pageCross a b = true ↔ ¬ b.toNat / 256 = a.toNat / 256 := by
    rw [pageCross, bne_iff_ne, Ne, eq_comm, ← BitVec.toNat_inj, toNat_hiByte, toNat_hiByte]
  simp only [hpage, ite_not]

/-- A mode whose index takes the base `w` to `addr`, as absolute-X and absolute-Y do (R129, R130), also counts the cycle of a
changed high byte. -/
theorem resolve_of_pagePenalty_eq_pageCross {o : Operand} {s : State} {w addr : Word} (ho : o ≠ .implicit)
    (h : pagePenalty o s = if pageCross w addr then 1 else 0) :
    resolve o s = .ok { s with
      pc := s.pc + BitVec.ofNat 16 o.mode.operandBytes
      memCycles := s.memCycles + if addr.toNat / 256 = w.toNat / 256 then 0 else 1 } := by
  rw [resolve_ok ho, resolved, h, pageCross_cycle]

/-! ### The modes of an operation -/

/-- An instruction's mode is one of its operation's row (30_encoding.md R97). -/
theorem mode_mem_modes (i : Instr) : i.mode ∈ i.operation.modes := by
  cases i <;> exact List.mem_of_elem_eq_true rfl

theorem eq_ldx_or_stx_of_zeroPageY_mem {op : Operation} (h : .zeroPageY ∈ op.modes) : op = .ldx ∨ op = .stx := by
  revert h
  cases op <;> decide

/-! ### The obligations -/

/-- Settles O19: the resolver fails on implicit and leaves `resolved` on any other mode. -/
theorem resolverContract : Obligations.ResolverContract := by
  refine fun o s => ⟨?_, fun ho => ⟨_, resolve_ok ho s, rfl, rfl⟩⟩
  rintro rfl
  exact resolve_implicit s

/-- Settles O20: each address is a zero-extended byte, and of R97's rows only LDX and STX list zero-page-Y. -/
theorem zeroPageModes : Obligations.ZeroPageModes := by
  refine ⟨fun b s => ⟨congrArg some (zext_eq_ofNat b), congrArg some (zext_add_eq_ofNat b s.x),
    congrArg some (zext_add_eq_ofNat b s.y), ?_, ?_, ?_⟩,
    fun i hmode => eq_ldx_or_stx_of_zeroPageY_mem (hmode ▸ mode_mem_modes i)⟩
  all_goals exact resolve_of_pagePenalty_eq_zero nofun rfl

/-- Settles O21: the two indexed modes are one argument, on X and on Y. -/
theorem absoluteModes : Obligations.AbsoluteModes := fun w s =>
  ⟨rfl, resolve_of_pagePenalty_eq_zero nofun rfl,
    ⟨_, rfl, toNat_add_zext w s.x, resolve_of_pagePenalty_eq_pageCross nofun rfl⟩,
    ⟨_, rfl, toNat_add_zext w s.y, resolve_of_pagePenalty_eq_pageCross nofun rfl⟩⟩

/-- Settles O22: the address is the pointer's word, in indirect-indexed mode with Y added after the read. -/
theorem pointerModes : Obligations.PointerModes := by
  refine ⟨fun b s => ⟨⟨_, rfl, toNat_zpWord (b + s.x) s⟩, ⟨_, rfl, ?_⟩, ?_, ?_⟩,
    fun w s => ⟨⟨_, rfl, toNat_absWord w s⟩, ?_⟩⟩
  · rw [toNat_add_zext, toNat_zpWord]
  all_goals exact resolve_of_pagePenalty_eq_zero nofun rfl

end Sys2Proof.Proofs
end

section
/-! SUPPORT. ADC and SBC (41_arithmetic.md): the state the step ends in around an operation, A and the flags from the untruncated
result, and the sign-change tests in XOR form. -/

namespace Sys2Proof.Proofs

open Sys2Proof.Machine Sys2Proof.Claims

/-! ### What the step does around the operation -/

/-- A step whose operation changed nothing ends with PC past the instruction and the cycles counted. -/
theorem endStep_resolved (i : Instr) (s : State) :
    endStep (baseCycles i) (resolved i.operand (beginStep s)) = ranPast i s := by
  have hpc : s.pc + 1 + BitVec.ofNat 16 i.operand.mode.operandBytes = s.pc + BitVec.ofNat 16 i.length := by
    rw [Instr.length, BitVec.ofNat_add, ← BitVec.add_assoc]
    rfl
  rw [ranPast, ← hpc, endStep, resolved, pagePenalty_beginStep, beginStep_memCycles, Nat.zero_add]
  rfl

/-! ### The flags of an untruncated result -/

/-- A written with the masked result: Z and N by the residue modulo 256 (10_state.md R21, R37). -/
theorem writeA_ofInt (r : Int) (t : State) :
    writeA (BitVec.ofInt 8 r) t =
      { t with a := BitVec.ofInt 8 r, flagZ := decide (r % 256 = 0), flagN := decide (128 ≤ r % 256) } := by
  rw [← ofInt_eq_zero, ← msb_ofInt, ← writeA_flagZ _ t, ← writeA_flagN _ t]
  rfl

/-- The sign-change test of R38 on two bytes and the masked result (decision D23). -/
theorem checkOverflowAdd_bytes (a m : Byte) (r : Int) (t : State) :
    checkOverflowAdd a.toNat m.toNat r t =
      { t with flagV := (~~~(a ^^^ m) &&& (a ^^^ BitVec.ofInt 8 r)).getLsbD 7 } := by
  rw [checkOverflowAdd, bit7_byte, bit7_byte, ← overflowAdd_xor]
  rfl

/-- The sign-change test of R39 on two bytes and the masked result (decision D23). -/
theorem checkOverflowSub_bytes (a m : Byte) (r : Int) (t : State) :
    checkOverflowSub a.toNat m.toNat r t =
      { t with flagV := ((a ^^^ m) &&& (a ^^^ BitVec.ofInt 8 r)).getLsbD 7 } := by
  rw [checkOverflowSub, bit7_byte, bit7_byte, ← overflowSub_xor]
  rfl

/-! ### ADC and SBC with an operand's value -/

/-- `s` with A and the flags of an untruncated result `r`, its overflow being `v` (41_arithmetic.md R150, R151). -/
def arithResult (r : Int) (v : Bool) (s : State) : State :=
  { s with
    a := BitVec.ofInt 8 r
    flagC := decide (r > 0xFF)
    flagZ := decide (r % 256 = 0)
    flagN := decide (128 ≤ r % 256)
    flagV := v }

/-- The carry check and A's write, after the overflow check. -/
theorem endStep_writeA_checkCarry (i : Instr) (s : State) (r : Int) (v : Bool) :
    endStep (baseCycles i)
      (writeA (BitVec.ofInt 8 r) (checkCarry r { resolved i.operand (beginStep s) with flagV := v })) =
      arithResult r v (ranPast i s) := by
  rw [writeA_ofInt, ← endStep_resolved]
  rfl

/-- ADC of a value (41_arithmetic.md R150). -/
theorem exec_adc {i : Instr} {s : State} {m : Byte} (hop : i.operation = .adc) (hm : operandValue i.operand s = some m) :
    let r : Int := s.a.toNat + m.toNat + flagBit s.flagC
    exec i s =
      .next (arithResult r ((~~~(s.a ^^^ m) &&& (s.a ^^^ BitVec.ofInt 8 r)).getLsbD 7) (ranPast i s)) := by
  have hbody : bodyOf i.operation i.operand = adc i.operand := by rw [hop]; rfl
  rw [exec_of_value (congrFun hbody _) hm]
  simp only [checkOverflowAdd_bytes, endStep_writeA_checkCarry]
  rfl

/-- SBC of a value (41_arithmetic.md R151). -/
theorem exec_sbc {i : Instr} {s : State} {m : Byte} (hop : i.operation = .sbc) (hm : operandValue i.operand s = some m) :
    let r : Int := s.a.toNat - m.toNat - (1 - flagBit s.flagC)
    exec i s = .next (arithResult r (((s.a ^^^ m) &&& (s.a ^^^ BitVec.ofInt 8 r)).getLsbD 7) (ranPast i s)) := by
  have hbody : bodyOf i.operation i.operand = sbc i.operand := by rw [hop]; rfl
  rw [exec_of_value (congrFun hbody _) hm]
  simp only [checkOverflowSub_bytes, endStep_writeA_checkCarry]
  rfl

/-! ### The obligations -/

/-- Settles O23: the sum is a natural number, so its integer checks are those of the natural number. -/
theorem adcAddsWithCarry : Obligations.AdcAddsWithCarry := by
  intro i s hop
  obtain ⟨m, hm⟩ := hasValue (i := i) (by simp [hop]) s
  refine ⟨m, hm, ?_⟩
  have hsum : (s.a.toNat : Int) + m.toNat + flagBit s.flagC = (s.a.toNat + m.toNat + s.flagC.toNat : Nat) := by
    rw [flagBit_eq]
    push_cast
    rfl
  rw [exec_adc hop hm, hsum, arithResult, BitVec.ofInt_natCast]
  norm_cast

/-- Settles O24: the difference is at most 0xFF, so the carry check clears C. -/
theorem sbcSubtractsAndClearsCarry : Obligations.SbcSubtractsAndClearsCarry := by
  intro i s hop
  obtain ⟨m, hm⟩ := hasValue (i := i) (by simp [hop]) s
  refine ⟨m, hm, ?_⟩
  have hcarry : decide ((s.a.toNat : Int) - m.toNat - (1 - s.flagC.toNat) > 0xFF) = false := by
    have ha : s.a.toNat < 256 := s.a.isLt
    have hc : s.flagC.toNat ≤ 1 := Bool.toNat_le s.flagC
    rw [decide_eq_false_iff_not]
    omega
  rw [exec_sbc hop hm, arithResult, flagBit_eq, hcarry]

end Sys2Proof.Proofs
end

section
/-! SUPPORT. AND, ORA, EOR and BIT (42_logical.md): the zero/negative check in the statements' form, one lemma for the three
operations that combine a value into A, one for BIT. -/

namespace Sys2Proof.Proofs

open Sys2Proof.Machine Sys2Proof.Claims

/-! ### The checks of a masked byte -/

/-- The zero/negative check of a byte writes Z and N of that byte and nothing else (10_state.md R37). -/
theorem setZNByte_eq_checked (v : Byte) (t : State) : setZNByte v t = checked v t := by
  obtain ⟨hz, hn⟩ := setZNByte_hasZN v t
  rw [checked, ← hz, ← hn]
  rfl

/-- The zero check of a byte writes Z of that byte and nothing else (10_state.md R37). -/
theorem checkZero_byte (v : Byte) (t : State) : checkZero v.toNat t = { t with flagZ := decide (v = 0) } := by
  rw [checkZero, zero_byte, beq_eq_decide]

/-! ### The operations with an operand's value -/

/-- An instruction that writes to A a function of A and its operand's value completes in that write and its check. -/
theorem exec_of_writeA {i : Instr} {s : State} {m : Byte} {f : Byte → Byte → Byte}
    (hb : bodyOf i.operation i.operand = fun u => withValue i.operand u fun m t => writeA (f t.a m) t)
    (hm : operandValue i.operand s = some m) :
    exec i s = .next (checked (f s.a m) { ranPast i s with a := f s.a m }) := by
  rw [exec_of_value (congrFun hb _) hm, writeA, setZNByte_eq_checked, ← endStep_resolved]
  rfl

/-- BIT of a value (42_logical.md R163). -/
theorem exec_bit {i : Instr} {s : State} {m : Byte} (hop : i.operation = .bit) (hm : operandValue i.operand s = some m) :
    exec i s = .next { ranPast i s with
      flagZ := decide (s.a &&& m = 0), flagN := m.getLsbD 7, flagV := m.getLsbD 6 } := by
  have hbody : bodyOf i.operation i.operand = bitTest i.operand := by rw [hop]; rfl
  rw [exec_of_value (congrFun hbody _) hm, checkZero_byte, ← endStep_resolved]
  rfl

/-! ### The obligations -/

/-- Settles O25: each of the three operations writes A through its own bitwise function. -/
theorem logicalCombinesIntoA : Obligations.LogicalCombinesIntoA := by
  intro i s f hop
  obtain ⟨m, hm⟩ := hasValue (i := i) (by rcases hop with ⟨hop, -⟩ | ⟨hop, -⟩ | ⟨hop, -⟩ <;> simp [hop]) s
  refine ⟨m, hm, exec_of_writeA ?_ hm⟩
  rcases hop with ⟨hop, rfl⟩ | ⟨hop, rfl⟩ | ⟨hop, rfl⟩ <;>
    · rw [hop]
      rfl

/-- Settles O26: the step around BIT leaves `ranPast`, and BIT itself writes three flags. -/
theorem bitTestsMemory : Obligations.BitTestsMemory := by
  intro i s hop
  obtain ⟨m, hm⟩ := hasValue (i := i) (by simp [hop]) s
  exact ⟨m, hm, exec_bit hop hm⟩

end Sys2Proof.Proofs
end

section
/-! SUPPORT. ASL, LSR, ROL and ROR (43_shift_rotate.md): the shifted integers as shifts of the byte, the read-modify-write of A or
of one cell said once for every operation that checks its result, and the four operations as instances of it. -/

namespace Sys2Proof.Proofs

open Sys2Proof.Machine Sys2Proof.Claims

/-! ### The shifted integers, masked -/

/-- The masked result of ROL: the bits doubled, the carry in the vacated bit 0 (43_shift_rotate.md R172). -/
theorem ofInt_rolWide (v : Byte) (c : Bool) :
    BitVec.ofInt 8 (rolWide v c) = v <<< 1 ||| (if c then 0x01 else 0x00) := by
  have hwide : rolWide v c = ((v.toNat <<< 1 + c.toNat : Nat) : Int) := by
    rw [rolWide, flagBit_eq, Nat.shiftLeft_eq]
    rfl
  have hcarry : c.toNat < 2 ^ 1 := c.toNat_lt
  rw [hwide, BitVec.ofInt_natCast, Nat.shiftLeft_add_eq_or_of_lt hcarry, BitVec.ofNat_or]
  cases c <;> rfl

/-- The masked result of ROR: the bits halved, the carry in the vacated bit 7 (43_shift_rotate.md R173). -/
theorem ofInt_rorWide (v : Byte) (c : Bool) :
    BitVec.ofInt 8 (rorWide v c) = v >>> 1 ||| (if c then 0x80 else 0x00) := by
  have hhalf : v.toNat >>> 1 < 2 ^ 7 := by
    rw [Nat.shiftRight_eq_div_pow]
    omega
  have hwide : rorWide v c = ((c.toNat <<< 7 + v.toNat >>> 1 : Nat) : Int) := by
    rw [rorWide, flagBit_eq, Nat.shiftLeft_eq, Nat.shiftRight_eq_div_pow]
    omega
  rw [hwide, BitVec.ofInt_natCast, Nat.shiftLeft_add_eq_or_of_lt hhalf, BitVec.ofNat_or, BitVec.or_comm,
    ← BitVec.toNat_ushiftRight, BitVec.ofNat_toNat, BitVec.setWidth_eq]
  cases c <;> rfl

/-- ASL is ROL with no carry in. -/
theorem aslWide_eq_rolWide (v : Byte) : aslWide v = rolWide v false := (add_zero _).symm

/-- LSR is ROR with no carry in. -/
theorem lsrWide_eq_rorWide (v : Byte) : lsrWide v = rorWide v false := (add_zero _).symm

theorem ofInt_aslWide (v : Byte) : BitVec.ofInt 8 (aslWide v) = v <<< 1 := by
  rw [aslWide_eq_rolWide, ofInt_rolWide]
  exact BitVec.or_zero

theorem ofInt_lsrWide (v : Byte) : BitVec.ofInt 8 (lsrWide v) = v >>> 1 := by
  rw [lsrWide_eq_rorWide, ofInt_rorWide]
  exact BitVec.or_zero

/-- A doubled byte passes 0xFF exactly when its bit 7 is shifted out, whatever comes in (43_shift_rotate.md R172). -/
theorem checkCarry_rolWide (v : Byte) (c : Bool) (t : State) :
    checkCarry (rolWide v c) t = { t with flagC := v.getLsbD 7 } := by
  have hcarry : decide (rolWide v c > 0xFF) = v.getLsbD 7 := by
    rw [getLsbD_seven, BitVec.msb_eq_decide, rolWide, flagBit_eq]
    have hc : c.toNat ≤ 1 := Bool.toNat_le c
    exact decide_eq_decide.2 (by omega)
  rw [checkCarry, hcarry]

theorem checkCarry_aslWide (v : Byte) (t : State) :
    checkCarry (aslWide v) t = { t with flagC := v.getLsbD 7 } := by
  rw [aslWide_eq_rolWide, checkCarry_rolWide]

/-- A shift checks Z and N of its masked result (43_shift_rotate.md R174, decision D12). -/
theorem setZN_shiftChecked (wide : Int) (t : State) :
    setZN (shiftChecked wide) t = checked (BitVec.ofInt 8 wide) t := by
  obtain ⟨hz, hn⟩ := setZN_shiftChecked_hasZN wide t
  rw [checked, ← hz, ← hn]
  rfl

/-! ### The read-modify-write of a checked result -/

/-- The read-modify-write whose result and carry are functions of the operand and the carry before, with Z and N those of the
result (43_shift_rotate.md R174). -/
def modifyChecked (result : Byte → Bool → Byte) (carry : Byte → Bool → Bool) (o : Operand) (s : State) : Except Fault State :=
  Machine.modify o s (fun v t => result v t.flagC)
    fun v t => checked (result v t.flagC) { t with flagC := carry v t.flagC }

section

variable {i : Instr} {result : Byte → Bool → Byte} {carry : Byte → Bool → Bool}

/-- In accumulator mode it writes A, C, Z and N. -/
theorem exec_of_modifyChecked_accumulator (hb : bodyOf i.operation i.operand = modifyChecked result carry i.operand)
    (ho : i.operand = .accumulator) (s : State) :
    exec i s = .next (checked (result s.a s.flagC)
      { ranPast i s with a := result s.a s.flagC, flagC := carry s.a s.flagC }) := by
  rw [ho] at hb
  rw [exec_of_body (by rw [ho, hb]; exact modify_accumulator ..), ← endStep_resolved, ho]
  rfl

/-- In every other mode of its operation it rewrites one cell, C, Z and N. -/
theorem exec_of_modifyChecked_cell (hb : bodyOf i.operation i.operand = modifyChecked result carry i.operand)
    (hop : i.operation ∈ [Operation.asl, .lsr, .rol, .ror, .inc, .dec]) (ho : i.operand ≠ .accumulator) (s : State) :
    ∃ addr t, operandAddr i.operand s = some addr ∧ exec i s = .next t ∧
      CellRewritten i s t addr (result (readByte s addr) s.flagC) (carry (readByte s addr) s.flagC) := by
  obtain ⟨hr, addr, ha⟩ := hasAddr (List.mem_append_right [.sta, .stx, .sty] hop) ho s
  obtain ⟨m, hm⟩ := hasValue (List.mem_append_right
    [.adc, .sbc, .and, .ora, .eor, .bit, .cmp, .cpx, .cpy, .lda, .ldx, .ldy] hop) s
  refine ⟨addr, _, ha, exec_of_modify (congrFun hb _) hr ha (Option.isSome_of_mem hm), ?_, fun b hne => ?_, ?_⟩
  · exact (readByte_writeByte addr addr _ _).trans (if_pos rfl)
  · exact (readByte_writeByte addr b _ _).trans (if_neg hne)
  · rw [← endStep_resolved]
    rfl

end

/-- An operation with that read-modify-write does it in each of its modes, on A or on a cell. -/
theorem shiftDoes_of_modifyChecked {op : Operation} {result : Byte → Bool → Byte} {carry : Byte → Bool}
    (hop : op ∈ [Operation.asl, .lsr, .rol, .ror, .inc, .dec])
    (hb : ∀ o s, bodyOf op o s = modifyChecked result (fun v _ => carry v) o s) : ShiftDoes op result carry := by
  have hbody (i : Instr) (hi : i.operation = op) :
      bodyOf i.operation i.operand = modifyChecked result (fun v _ => carry v) i.operand := by
    rw [hi]
    exact funext (hb i.operand)
  exact ⟨fun i s hi ho => exec_of_modifyChecked_accumulator (hbody i hi) ho s, fun i s hi ho =>
    exec_of_modifyChecked_cell (hbody i hi) (hi ▸ hop) ho s⟩

/-! ### The obligations -/

/-- Settles O28: the doubled operand is the byte shifted left, and its carry check is bit 7. -/
theorem aslShiftsLeft : Obligations.AslShiftsLeft := by
  refine shiftDoes_of_modifyChecked (by simp) fun o s => ?_
  show asl o s = _
  simp only [asl, setZN_shiftChecked, ofInt_aslWide, checkCarry_aslWide, modifyChecked]

/-- Settles O29: the halved operand is the byte shifted right. -/
theorem lsrShiftsRight : Obligations.LsrShiftsRight := by
  refine shiftDoes_of_modifyChecked (by simp) fun o s => ?_
  show lsr o s = _
  simp only [lsr, setZN_shiftChecked, ofInt_lsrWide, modifyChecked]

/-- Settles O30: the carry before goes into the vacated bit 0, and cannot itself carry out. -/
theorem rolRotatesLeft : Obligations.RolRotatesLeft := by
  refine shiftDoes_of_modifyChecked (by simp) fun o s => ?_
  show rol o s = _
  simp only [rol, setZN_shiftChecked, ofInt_rolWide, checkCarry_rolWide, modifyChecked]

/-- Settles O31: the carry before goes into the vacated bit 7. -/
theorem rorRotatesRight : Obligations.RorRotatesRight := by
  refine shiftDoes_of_modifyChecked (by simp) fun o s => ?_
  show ror o s = _
  simp only [ror, setZN_shiftChecked, ofInt_rorWide, modifyChecked]

end Sys2Proof.Proofs
end

section
/-! SUPPORT. CMP, CPX and CPY (44_compare.md): the zero/negative check of an untruncated integer, and the compare of any register
that resolving the operand leaves alone. -/

namespace Sys2Proof.Proofs

open Sys2Proof.Machine Sys2Proof.Claims

/-- The zero/negative check of an integer writes Z of the integer itself and N of its residue modulo 256 (10_state.md R37). -/
theorem setZN_eq_residue (v : Int) (t : State) :
    setZN v t = { t with flagZ := decide (v = 0), flagN := decide (128 ≤ v % 256) } := by
  rw [← bit7_eq]
  rfl

/-- The operation of an instruction that names a compared register is the compare of that register, which the operand's
resolution leaves as it was (44_compare.md R181 to R183). -/
theorem bodyOf_of_comparedRegister {s : State} {op : Operation} {v : Byte} (h : comparedRegister s op = some v) (o : Operand) :
    ∃ reg : State → Byte, bodyOf op o = Machine.compare reg o ∧ reg (resolved o (beginStep s)) = v := by
  cases op
  case cmp => exact ⟨State.a, rfl, Option.some.inj h⟩
  case cpx => exact ⟨State.x, rfl, Option.some.inj h⟩
  case cpy => exact ⟨State.y, rfl, Option.some.inj h⟩
  all_goals exact nomatch h

/-- The operations that name a compared register. -/
theorem mem_of_comparedRegister {s : State} {op : Operation} {v : Byte} (h : comparedRegister s op = some v) :
    op ∈ [Operation.cmp, .cpx, .cpy] := by
  cases op
  case cmp | cpx | cpy => decide
  all_goals exact nomatch h

/-- A compare with a value completes past the instruction, with C, Z and N of the untruncated difference (44_compare.md R180). -/
theorem exec_of_comparedRegister {i : Instr} {s : State} {v m : Byte} (h : comparedRegister s i.operation = some v)
    (hm : operandValue i.operand s = some m) :
    let r : Int := v.toNat - m.toNat
    exec i s = .next { ranPast i s with
      flagC := decide (0 ≤ r), flagZ := decide (r = 0), flagN := decide (128 ≤ r % 256) } := by
  obtain ⟨reg, hbody, hreg⟩ := bodyOf_of_comparedRegister h i.operand
  rw [exec_of_value (congrFun hbody _) hm]
  simp only [hreg, setZN_eq_residue, ← endStep_resolved]
  rfl

/-- Settles O27: a compare leaves `ranPast` but for three flags, and `ranPast` differs in PC and the cycle fields alone. -/
theorem compareFlags : Obligations.CompareFlags := by
  intro i s reg hreg
  obtain ⟨m, hm⟩ := hasValue ((by decide : [Operation.cmp, .cpx, .cpy] ⊆ _) (mem_of_comparedRegister hreg)) s
  exact ⟨m, _, hm, exec_of_comparedRegister hreg hm, rfl⟩

end Sys2Proof.Proofs
end

section
/-! SUPPORT. INC, DEC, INX, INY, DEX and DEY (45_inc_dec.md): the two steps of a byte as numbers, INC and DEC as the
read-modify-write that keeps the carry, and the instructions whose effect is a write of an index register. -/

namespace Sys2Proof.Proofs

open Sys2Proof.Machine Sys2Proof.Claims

/-! ### A byte's successor and predecessor as numbers -/

theorem byte_add_one_eq_ofNat (v : Byte) : v + 1 = BitVec.ofNat 8 (v.toNat + 1) := by
  bv_omega

/-- One less modulo 256 is 255 more. -/
theorem byte_sub_one_eq_ofNat (v : Byte) : v - 1 = BitVec.ofNat 8 (v.toNat + 255) := by
  bv_omega

/-! ### INC and DEC -/

/-- INC and DEC check Z and N of their result and leave C as it was (45_inc_dec.md R190, R191). -/
theorem bodyOf_eq_modifyChecked {op : Operation} {d : Nat} (h : (op = .inc ∧ d = 1) ∨ (op = .dec ∧ d = 255)) (o : Operand) :
    bodyOf op o = modifyChecked (fun v _ => BitVec.ofNat 8 (v.toNat + d)) (fun _ c => c) o := by
  funext s
  obtain ⟨rfl, rfl⟩ | ⟨rfl, rfl⟩ := h
  · simp only [bodyOf, incM, modifyChecked, setZNByte_eq_checked, byte_add_one_eq_ofNat]
  · simp only [bodyOf, decM, modifyChecked, setZNByte_eq_checked, byte_sub_one_eq_ofNat]

/-- Settles O32: INC and DEC are the checked read-modify-write of one cell, and neither has an accumulator mode. -/
theorem incDecRewriteCell : Obligations.IncDecRewriteCell := by
  intro i s d h
  have hop : i.operation ∈ [Operation.inc, .dec] := by
    obtain ⟨hop, -⟩ | ⟨hop, -⟩ := h <;> simp [hop]
  have hcell : i.operand ≠ .accumulator := fun ho => by
    simpa [ho, Operand.mode] using mode_ne_accumulator hop
  exact exec_of_modifyChecked_cell (bodyOf_eq_modifyChecked h i.operand)
    (List.mem_append_right [Operation.asl, .lsr, .rol, .ror] hop) hcell s

/-! ### INX, INY, DEX and DEY -/

/-- An instruction whose effect is a write of X leaves `ranPast` but for X and its check (10_state.md R22). -/
theorem exec_of_writeX {i : Instr} {s : State} {v : Byte}
    (h : effectOf i (resolved i.operand (beginStep s)) = writeX v (resolved i.operand (beginStep s))) :
    exec i s = .next (checked v { ranPast i s with x := v }) := by
  rw [exec_eq_after, after, h, writeX, setZNByte_eq_checked, ← endStep_resolved]
  rfl

/-- An instruction whose effect is a write of Y leaves `ranPast` but for Y and its check (10_state.md R22). -/
theorem exec_of_writeY {i : Instr} {s : State} {v : Byte}
    (h : effectOf i (resolved i.operand (beginStep s)) = writeY v (resolved i.operand (beginStep s))) :
    exec i s = .next (checked v { ranPast i s with y := v }) := by
  rw [exec_eq_after, after, h, writeY, setZNByte_eq_checked, ← endStep_resolved]
  rfl

/-- Settles O33: each effect is the write of one index register, one more or one less than it was. -/
theorem indexIncrementDecrement : Obligations.IndexIncrementDecrement := by
  intro s
  simp only [← byte_add_one_eq_ofNat, ← byte_sub_one_eq_ofNat]
  exact ⟨exec_of_writeX rfl, exec_of_writeY rfl, exec_of_writeX rfl, exec_of_writeY rfl⟩

end Sys2Proof.Proofs
end

section
/-! SUPPORT. The eight branches (46_branch.md): the target as R131 writes it, the one effect they share under the condition of
their row, and the step around it. -/

namespace Sys2Proof.Proofs

open Sys2Proof.Machine Sys2Proof.Claims

/-- The target of a relative operand: sign and magnitude, modulo 65536 (40_addressing_modes.md R131, decision D7). -/
theorem relTarget_eq_signMagnitude (b : Byte) (next : Word) :
    relTarget b next = BitVec.ofInt 16
      (if b.toNat < 0x80 then (next.toNat : Int) + b.toNat else (next.toNat : Int) - ((b.toNat : Int) - 0x80)) := by
  have hsum : relSum b next =
      next.toNat + if b.toNat < 0x80 then (b.toNat : Int) else -((b.toNat : Int) - 0x80) := rfl
  rw [relTarget, hsum, add_ite, ← sub_eq_add_neg]

/-! ### The condition and the effect -/

/-- Only the branches have a relative operand, and each has a condition (46_branch.md R201 to R208). -/
theorem exists_branchCondition_of_relative {i : Instr} {b : Byte} (h : i.operand = .relative b) (s : State) :
    ∃ cond, branchCondition s i.operation = some cond := by
  cases i
  case bcc | bcs | beq | bmi | bne | bpl | bvc | bvs => exact ⟨_, rfl⟩
  all_goals exact nomatch h

/-- An operation with a branch condition branches under it (46_branch.md R200). -/
theorem effect_of_branchCondition {op : Operation} {t : State} {cond : Bool} (h : branchCondition t op = some cond)
    (acc : Bool) (m : Byte) (addr : Word) : effect op acc m addr t = branchTo cond addr t := by
  cases op
  case bcc | bcs | beq | bmi | bne | bpl | bvc | bvs =>
    obtain rfl := Option.some.inj h
    rfl
  all_goals exact nomatch h

/-- On a relative operand it branches to the operand's target. -/
theorem effectOf_of_branchCondition {i : Instr} {t : State} {b : Byte} {cond : Bool} (ho : i.operand = .relative b)
    (hc : branchCondition t i.operation = some cond) : effectOf i t = branchTo cond (relTarget b t.pc) t := by
  have hplace : operandPlace i.operand t = relTarget b t.pc := by
    rw [ho]
    rfl
  rw [effectOf, effect_of_branchCondition hc, hplace]

/-- A branch taken counts one cycle, or two where the target's high byte is another (46_branch.md R200, conflict C3). -/
theorem branchTo_taken (target : Word) {t : State} (h : t.extraCycles = 0) :
    branchTo true target t =
      { t with pc := target, extraCycles := if hiByte t.pc = hiByte target then 1 else 2 } := by
  have hcross : pageCross t.pc target = true ↔ ¬ hiByte t.pc = hiByte target := bne_iff_ne
  simp only [branchTo, hcross, h, if_true, ite_not, add_ite]

/-! ### The step -/

section

variable {i : Instr} {b : Byte}

theorem mode_of_relative (ho : i.operand = .relative b) : i.mode = .relative := congrArg Operand.mode ho

theorem length_of_relative (ho : i.operand = .relative b) : i.length = 2 := by
  rw [Instr.length, mode_of_relative ho]
  rfl

/-- Around a branch the step takes 2 cycles, the operand byte none of its own (46_branch.md R200). -/
theorem ranPast_of_relative (ho : i.operand = .relative b) (s : State) :
    ranPast i s = { s with pc := s.pc + 2, memCycles := 0, extraCycles := 0, cycles := 2 } := by
  rw [ranPast, length_of_relative ho, baseCycles_relative (mode_of_relative ho), ho]
  rfl

/-- The step of a branch is the branch from past the instruction, and the count of its cycles. -/
theorem exec_of_branchCondition {s : State} {cond : Bool} (ho : i.operand = .relative b)
    (hc : branchCondition s i.operation = some cond) :
    exec i s = .next (endStep 2 (branchTo cond (relTarget b (s.pc + 2)) (ranPast i s))) := by
  have hflags : branchCondition (resolved i.operand (beginStep s)) i.operation = some cond := hc
  have hpc : (resolved i.operand (beginStep s)).pc = s.pc + 2 := by
    have hpast := congrArg State.pc (endStep_resolved i s)
    rwa [ranPast_of_relative ho] at hpast
  rw [exec_eq_after, after, effectOf_of_branchCondition ho hflags, hpc, baseCycles_relative (mode_of_relative ho),
    ← endStep_resolved]
  rfl

end

/-- Settles O34: the branch starts past the instruction, and a changed page is a changed high byte. -/
theorem branchFrame : Obligations.BranchFrame := by
  intro i s b ho
  obtain ⟨cond, hc⟩ := exists_branchCondition_of_relative ho s
  refine ⟨cond, hc, length_of_relative ho, baseCycles_relative (mode_of_relative ho), ?_⟩
  intro next target
  have htarget : relTarget b next = target := relTarget_eq_signMagnitude b next
  rw [exec_of_branchCondition ho hc, ranPast_of_relative ho, htarget]
  cases cond
  case false => rfl
  case true =>
    rw [branchTo_taken _ rfl]
    simp only [endStep, add_ite, if_true]
    rfl

end Sys2Proof.Proofs
end

section
/-! SUPPORT. JMP, JSR, RTS, BRK and RTI (47_control_flow.md): the stack slots as the pushes fill them, each operation on the state
past the instruction, and the returns as the inverses of the two entries. -/

namespace Sys2Proof.Proofs

open Sys2Proof.Machine Sys2Proof.Claims

theorem word_eq_ofNat (hi lo : Byte) : word hi lo = BitVec.ofNat 16 (hi.toNat * 256 + lo.toNat) := by
  rw [← toNat_word, BitVec.ofNat_toNat, BitVec.setWidth_eq]

/-! ### The stack slots -/

theorem sub_two_slots (sp : Byte) : sp - 2 = sp - 1 - 1 := by
  bv_omega

theorem add_two_slots (sp : Byte) : sp + 2 = sp + 1 + 1 :=
  (BitVec.add_assoc sp 1 1).symm

/-- A slot of the stack page read after a push. -/
theorem readByte_push_slot (v q : Byte) (s : State) :
    readByte (push v s) (stackAddr q) = if q = s.sp then v else readByte s (stackAddr q) := by
  rw [readByte_push]
  simp only [stackAddr_inj]

/-- A push changes no byte above the stack page (10_state.md R40). -/
theorem readByte_push_above {b : Word} (hb : 0x0200 ≤ b.toNat) (v : Byte) (s : State) :
    readByte (push v s) b = readByte s b := by
  have hne : b ≠ stackAddr s.sp := by
    rintro rfl
    rw [stackAddr_toNat] at hb
    omega
  rw [readByte_push, if_neg hne]

theorem readByte_pushPc_high (s : State) : readByte (pushPc s) (stackAddr s.sp) = hiByte s.pc := by
  have hne : s.sp ≠ s.sp - 1 := by bv_omega
  rw [pushPc, readByte_push_slot, push_sp, if_neg hne, readByte_push_slot, if_pos rfl]

theorem readByte_pushPc_low (s : State) : readByte (pushPc s) (stackAddr (s.sp - 1)) = loByte s.pc := by
  rw [pushPc, readByte_push_slot, push_sp, if_pos rfl]

theorem readByte_setFlag (f : Flag) (s : State) (b : Word) : readByte (setFlag f s) b = readByte s b := by
  cases f <;> rfl

/-! ### What a pop of PC, a trap and its return leave -/

theorem popPc_eq (s : State) : popPc s = { s with
    pc := BitVec.ofNat 16 ((readByte s (stackAddr (s.sp + 2))).toNat * 256 + (readByte s (stackAddr (s.sp + 1))).toNat)
    sp := s.sp + 2 } := by
  rw [← word_eq_ofNat, add_two_slots]
  rfl

theorem packP_pushPc (s : State) : packP (pushPc s) = packP s :=
  packP_congr fun f => by cases f <;> rfl

/-- The vector lies above the stack page, so the trap's own pushes do not change it. -/
theorem takeTrap_eq (s : State) : takeTrap s = { s with
    pc := BitVec.ofNat 16 ((readByte s 0xFFFF).toNat * 256 + (readByte s 0xFFFE).toNat)
    sp := s.sp - 3, flagB := true, mem := (push (packP s) (pushPc s)).mem } := by
  have hvector {b : Word} (hb : 0x0200 ≤ b.toNat) :
      readByte (setFlag .b (push (packP (pushPc s)) (pushPc s))) b = readByte s b := by
    rw [readByte_setFlag, readByte_push_above hb, pushPc, readByte_push_above hb, readByte_push_above hb]
  have hslot : s.sp - 3 = s.sp - 1 - 1 - 1 := by bv_omega
  rw [takeTrap, hvector (b := brkVectorHi) (by decide), hvector (b := brkVectorLo) (by decide), packP_pushPc,
    word_eq_ofNat, hslot]
  simp [setFlag, writeFlag, brkVectorHi, brkVectorLo]

theorem readByte_takeTrap (s : State) (b : Word) :
    readByte (takeTrap s) b = readByte (push (packP s) (pushPc s)) b := by
  rw [takeTrap_eq]
  rfl

theorem readByte_takeTrap_high (s : State) : readByte (takeTrap s) (stackAddr s.sp) = hiByte s.pc := by
  have hne : s.sp ≠ s.sp - 1 - 1 := by bv_omega
  rw [readByte_takeTrap, readByte_push_slot, pushPc_sp, if_neg hne, readByte_pushPc_high]

theorem readByte_takeTrap_low (s : State) : readByte (takeTrap s) (stackAddr (s.sp - 1)) = loByte s.pc := by
  have hne : s.sp - 1 ≠ s.sp - 1 - 1 := by bv_omega
  rw [readByte_takeTrap, readByte_push_slot, pushPc_sp, if_neg hne, readByte_pushPc_low]

theorem readByte_takeTrap_status (s : State) : readByte (takeTrap s) (stackAddr (s.sp - 2)) = packP s := by
  rw [readByte_takeTrap, readByte_push_slot, pushPc_sp, if_pos (sub_two_slots s.sp)]

theorem returnFromTrap_eq (s : State) :
    returnFromTrap s = { unpackP (readByte s (stackAddr (s.sp + 1))) s with
      pc := BitVec.ofNat 16 ((readByte s (stackAddr (s.sp + 3))).toNat * 256 + (readByte s (stackAddr (s.sp + 2))).toNat)
      sp := s.sp + 3 } := by
  have hhigh : s.sp + 3 = s.sp + 1 + 2 := (BitVec.add_assoc s.sp 1 2).symm
  rw [hhigh, add_two_slots s.sp]
  exact popPc_eq _

/-! ### The step around each operation -/

/-- An instruction whose effect does not touch the cycle fields is its effect on the state past the instruction. -/
theorem exec_of_effect {i : Instr} {s : State} {g : State → State}
    (hg : ∀ base t, endStep base (g t) = g (endStep base t))
    (h : effectOf i (resolved i.operand (beginStep s)) = g (resolved i.operand (beginStep s))) :
    exec i s = .next (g (ranPast i s)) := by
  rw [exec_eq_after, after, h, hg, endStep_resolved]

theorem exec_jsr (w : Word) (s : State) : exec (.jsr w) s = .next { pushPc (ranPast (.jsr w) s) with pc := w } :=
  exec_of_effect (g := fun t => { pushPc t with pc := w }) (fun _ _ => rfl) rfl

theorem endStep_takeTrap (base : Nat) (s : State) : endStep base (takeTrap s) = takeTrap (endStep base s) := by
  rw [takeTrap_eq, takeTrap_eq]
  rfl

/-- BRK takes the trap from one byte past its own end (decision D8). -/
theorem exec_brk (s : State) : exec .brk s = .next (takeTrap (advancePc 1 (ranPast .brk s))) :=
  exec_of_effect (g := fun t => takeTrap (advancePc 1 t)) (fun base t => endStep_takeTrap base (advancePc 1 t)) rfl

/-! ### The obligations -/

/-- Settles O35: the effect of JMP is a write of PC, to the operand or to the word at the pointer. -/
theorem jmpWritesPc : Obligations.JmpWritesPc := by
  intro w s
  rw [← word_eq_ofNat]
  exact ⟨exec_of_effect (g := fun t => { t with pc := w }) (fun _ _ => rfl) rfl,
    exec_of_effect (g := fun t => { t with pc := absWord w t }) (fun _ _ => rfl) rfl⟩

/-- Settles O36: PC, already past the instruction, fills the two slots, and the memory frame says that no other byte changed. -/
theorem jsrPushesNextAddress : Obligations.JsrPushesNextAddress := by
  intro w s
  refine ⟨_, exec_jsr w s, readByte_pushPc_high (ranPast (.jsr w) s), readByte_pushPc_low (ranPast (.jsr w) s),
    fun b hhigh hlow => ?_, ?_⟩
  · exact memoryFrame (.jsr w) s _ (exec_jsr w s) b
      (List.not_mem_cons_of_ne_of_not_mem hhigh (List.not_mem_cons_of_ne_of_not_mem hlow List.not_mem_nil))
  · rw [sub_two_slots]
    rfl

/-- Settles O37: RTS is a pop of PC. -/
theorem rtsPopsPc : Obligations.RtsPopsPc := by
  intro s
  rw [exec_of_effect (i := .rts) (s := s) (g := popPc) (fun _ _ => rfl) rfl, popPc_eq]
  rfl

/-- Settles O38: the trap fills three slots, P below PC, and the memory frame says that no other byte changed. -/
theorem brkTrapEntry : Obligations.BrkTrapEntry := by
  intro s
  have hpc : (advancePc 1 (ranPast .brk s)).pc = s.pc + 2 := BitVec.add_assoc s.pc 1 1
  have hstatus : packP (advancePc 1 (ranPast .brk s)) = packP s := packP_congr fun f => by cases f <;> rfl
  refine ⟨_, exec_brk s, ?_, ?_, ?_, fun b hhigh hlow hlast => ?_, ?_⟩
  · exact (readByte_takeTrap_high _).trans (congrArg hiByte hpc)
  · exact (readByte_takeTrap_low _).trans (congrArg loByte hpc)
  · exact (readByte_takeTrap_status _).trans hstatus
  · exact memoryFrame .brk s _ (exec_brk s) b (List.not_mem_cons_of_ne_of_not_mem hhigh
      (List.not_mem_cons_of_ne_of_not_mem hlow (List.not_mem_cons_of_ne_of_not_mem hlast List.not_mem_nil)))
  · rw [takeTrap_eq]
    rfl

/-- Settles O39: RTI is the trap's return. -/
theorem rtiPopsStatusThenPc : Obligations.RtiPopsStatusThenPc := by
  intro s
  rw [exec_of_effect (i := .rti) (s := s) (g := returnFromTrap) (fun _ _ => rfl) rfl, returnFromTrap_eq]
  rfl

/-- Settles O40: RTS reads the two slots that JSR filled, and a word's two bytes make the word. -/
theorem rtsUndoesJsr : Obligations.RtsUndoesJsr := by
  intro w s
  obtain ⟨t, hjsr, hhigh, hlow, -, ht⟩ := jsrPushesNextAddress w s
  have hsp : t.sp = s.sp - 2 := congrArg State.sp ht
  have hslotLow : t.sp + 1 = s.sp - 1 := by bv_omega
  have hslotHigh : t.sp + 2 = s.sp := by bv_omega
  refine ⟨t, _, hjsr, rtsPopsPc t, ?_⟩
  rw [hslotLow, hslotHigh, hhigh, hlow, ← word_eq_ofNat, word_hiByte_loByte, ht]
  rfl

/-- Settles O41: RTI reads the three slots that BRK filled, and the pushed P holds every flag as it was. -/
theorem rtiUndoesBrk : Obligations.RtiUndoesBrk := by
  intro s
  obtain ⟨t, hbrk, hhigh, hlow, hstatus, -, ht⟩ := brkTrapEntry s
  have hsp : t.sp = s.sp - 3 := congrArg State.sp ht
  have hslotStatus : t.sp + 1 = s.sp - 2 := by bv_omega
  have hslotLow : t.sp + 2 = s.sp - 1 := by bv_omega
  have hslotHigh : t.sp + 3 = s.sp := by bv_omega
  have hrti := rtiPopsStatusThenPc t
  rw [hslotStatus, hslotLow, hslotHigh, hhigh, hlow, hstatus, ← word_eq_ofNat, word_hiByte_loByte] at hrti
  refine ⟨t, _, hbrk, hrti, ?_⟩
  rw [ht]
  show ({ unpackP (packP s) s with pc := _, mem := _, memCycles := _, extraCycles := _, cycles := _ } : State) = _
  rw [unpackP_packP]
  rfl

end Sys2Proof.Proofs
end

section
/-! SUPPORT. The stack instructions, the register transfers, the flag instructions and NOP (48_stack_transfer_flag.md): each an
effect on the state past the one-byte instruction, and PLP as the inverse of PHP. -/

namespace Sys2Proof.Proofs

open Sys2Proof.Machine Sys2Proof.Claims

/-! ### The stack instructions -/

/-- An instruction whose effect is one push leaves `ranPast` but for that push (10_state.md R41). -/
theorem exec_of_push {i : Instr} {s : State} {v : Byte}
    (h : effectOf i (resolved i.operand (beginStep s)) = push v (resolved i.operand (beginStep s))) :
    exec i s = .next (push v (ranPast i s)) :=
  exec_of_effect (g := push v) (fun _ _ => rfl) h

/-- Settles O42: the one push fills the slot at S, and no other byte. -/
theorem pushInstructions : Obligations.PushInstructions := by
  intro i s v h
  have hpush : exec i s = .next (push v (ranPast i s)) := by
    obtain ⟨rfl, rfl⟩ | ⟨rfl, rfl⟩ := h
    · exact exec_of_push rfl
    · exact exec_of_push rfl
  refine ⟨_, hpush, ?_, fun b hb => ?_, rfl⟩
  · exact (readByte_push v (ranPast i s) _).trans (if_pos rfl)
  · exact (readByte_push v (ranPast i s) b).trans (if_neg hb)

theorem pla_eq (s : State) : pla s =
    checked (readByte s (stackAddr (s.sp + 1))) { s with a := readByte s (stackAddr (s.sp + 1)), sp := s.sp + 1 } :=
  setZNByte_eq_checked _ _

theorem exec_pla (s : State) : exec .pla s = .next (pla (ranPast .pla s)) :=
  exec_of_effect (fun _ _ => rfl) rfl

/-- PLP unpacks the byte above S (48_stack_transfer_flag.md R233). -/
theorem exec_plp (s : State) : exec .plp s =
    .next (unpackP (readByte s (stackAddr (s.sp + 1))) { ranPast .plp s with sp := s.sp + 1 }) :=
  exec_of_effect (g := plp) (fun _ _ => rfl) rfl

/-- Settles O43: PLA is a pop and the check of a byte, PLP a pop and the unpacking of P (O15). -/
theorem pullInstructions : Obligations.PullInstructions := by
  intro s v
  refine ⟨?_, _, exec_plp s, packP_unpackP _ _, rfl⟩
  rw [exec_pla, pla_eq]
  rfl

/-- Settles O44: PLP reads the slot that PHP filled, and the pushed P holds every flag as it was. -/
theorem plpUndoesPhp : Obligations.PlpUndoesPhp := by
  intro s
  obtain ⟨t, hphp, hread, -, ht⟩ := pushInstructions .php s _ (.inr ⟨rfl, rfl⟩)
  have hsp : t.sp = s.sp - 1 := congrArg State.sp ht
  have hslot : t.sp + 1 = s.sp := by bv_omega
  have hpc : s.pc + 1 + 1 = s.pc + 2 := BitVec.add_assoc s.pc 1 1
  have hplp := exec_plp t
  rw [hslot, hread] at hplp
  refine ⟨t, _, hphp, hplp, ?_⟩
  rw [ht, ← hpc]
  show ({ unpackP (packP s) s with pc := _, mem := _, memCycles := _, extraCycles := _, cycles := _ } : State) = _
  rw [unpackP_packP]
  rfl

/-! ### The register transfers -/

/-- An instruction whose effect is a write of A leaves `ranPast` but for A and its check (10_state.md R21). -/
theorem exec_of_effect_writeA {i : Instr} {s : State} {v : Byte}
    (h : effectOf i (resolved i.operand (beginStep s)) = writeA v (resolved i.operand (beginStep s))) :
    exec i s = .next (checked v { ranPast i s with a := v }) := by
  rw [exec_eq_after, after, h, writeA, setZNByte_eq_checked, ← endStep_resolved]
  rfl

/-- Settles O45: five effects are the checked write of a register, that of TXS is the write of S alone. -/
theorem registerTransfers : Obligations.RegisterTransfers := fun s =>
  ⟨exec_of_writeX rfl, exec_of_writeY rfl, exec_of_effect_writeA rfl, exec_of_effect_writeA rfl, exec_of_writeX rfl,
    exec_of_effect (g := fun t => { t with sp := s.x }) (fun _ _ => rfl) rfl⟩

/-! ### The flag instructions and NOP -/

/-- A flag instruction takes no operand and 2 cycles (decision D15). -/
theorem implicit_twoCycles_of_flagWritten {i : Instr} {w : Flag × Bool} (h : flagWritten i.operation = some w) :
    i.operand = .implicit ∧ baseCycles i = 2 := by
  cases i
  case clc | cld | cli | clv | sec | sed | sei => exact ⟨rfl, rfl⟩
  all_goals exact nomatch h

/-- Its operation writes that flag (48_stack_transfer_flag.md R240 to R246). -/
theorem effect_of_flagWritten {op : Operation} {f : Flag} {v : Bool} (h : flagWritten op = some (f, v)) (acc : Bool)
    (m : Byte) (addr : Word) (t : State) : effect op acc m addr t = writeFlag f v t := by
  cases op
  case clc | cld | cli | clv | sec | sed | sei =>
    obtain ⟨rfl, rfl⟩ := Prod.mk.inj (Option.some.inj h)
    rfl
  all_goals exact nomatch h

theorem endStep_writeFlag (f : Flag) (v : Bool) (base : Nat) (t : State) :
    endStep base (writeFlag f v t) = writeFlag f v (endStep base t) :=
  endStep_set (.flag f) v base t

/-- Around an instruction without an operand the step advances PC by one and counts the base cycles. -/
theorem ranPast_of_implicit {i : Instr} (ho : i.operand = .implicit) (s : State) :
    ranPast i s = { s with pc := s.pc + 1, memCycles := 0, extraCycles := 0, cycles := baseCycles i } := by
  rw [ranPast, Instr.length, Instr.mode, ho]
  rfl

theorem exec_of_flagWritten {i : Instr} {f : Flag} {v : Bool} (h : flagWritten i.operation = some (f, v)) (s : State) :
    exec i s = .next (writeFlag f v { s with pc := s.pc + 1, memCycles := 0, extraCycles := 0, cycles := 2 }) := by
  obtain ⟨ho, hbase⟩ := implicit_twoCycles_of_flagWritten h
  rw [← hbase, ← ranPast_of_implicit ho]
  exact exec_of_effect (endStep_writeFlag f v) (effect_of_flagWritten h _ _ _ _)

/-- Settles O46: a flag write is undone by writing back the old value, and NOP leaves `ranPast`. -/
theorem flagInstructionsAndNop : Obligations.FlagInstructionsAndNop := by
  refine ⟨fun i s f v h => ?_, fun s => exec_of_effect (g := nop) (fun _ _ => rfl) rfl⟩
  have hpast (g : Flag) :
      State.flag { s with pc := s.pc + 1, memCycles := 0, extraCycles := 0, cycles := 2 } g = s.flag g := by
    cases g <;> rfl
  refine ⟨_, exec_of_flagWritten h s, ?_, fun g hg => ?_, ?_⟩
  · rw [flag_writeFlag, if_pos rfl]
  · rw [flag_writeFlag, if_neg hg, hpast]
  · rw [← hpast, writeFlag_writeFlag_flag]

end Sys2Proof.Proofs
end

section
/-! SUPPORT. LDA, LDX, LDY, STA, STX and STY (49_load_store.md, decision D13): the loads as checked register writes of the operand's
value, the stores as one write at the operand's effective address. -/

namespace Sys2Proof.Proofs

open Sys2Proof.Machine Sys2Proof.Claims

/-! ### The loads -/

/-- The value an operand has before the step is the one its operation consumes. -/
theorem operandByte_resolved {o : Operand} {s : State} {m : Byte} (hm : operandValue o s = some m) :
    operandByte o (resolved o (beginStep s)) = m := by
  have hr : operandValue o (resolved o (beginStep s)) = operandValue o s :=
    operandValue_congr (s := resolved o (beginStep s)) (t := s) rfl rfl rfl rfl o
  rw [operandByte, hr, hm, Option.getD_some]

/-- Settles O47: the effect of a load is the write of its register with the operand's value. -/
theorem loadsWriteRegister : Obligations.LoadsWriteRegister := by
  intro i s hop
  obtain ⟨m, hm⟩ := hasValue (i := i) (by rcases hop with hop | hop | hop <;> simp [hop]) s
  refine ⟨m, hm, ?_⟩
  have hbyte := operandByte_resolved hm
  rcases hop with hop | hop | hop <;> rw [hop]
  · exact exec_of_effect_writeA (by rw [effectOf, hop, hbyte]; rfl)
  · exact exec_of_writeX (by rw [effectOf, hop, hbyte]; rfl)
  · exact exec_of_writeY (by rw [effectOf, hop, hbyte]; rfl)

/-! ### The stores -/

/-- An operation that names a stored register stores it at the operand's address (49_load_store.md R273 to R275). -/
theorem effect_of_storedRegister {op : Operation} {t : State} {v : Byte} (h : storedRegister t op = some v) (acc : Bool)
    (m : Byte) (addr : Word) : effect op acc m addr t = writeByte addr v t := by
  cases op
  case sta | stx | sty =>
    obtain rfl := Option.some.inj h
    rfl
  all_goals exact nomatch h

/-- The operations that name a stored register. -/
theorem mem_of_storedRegister {s : State} {op : Operation} {v : Byte} (h : storedRegister s op = some v) :
    op ∈ [Operation.sta, .stx, .sty] := by
  cases op
  case sta | stx | sty => decide
  all_goals exact nomatch h

/-- No store has a relative mode in its row of 30_encoding.md R97. -/
theorem relative_not_mem_modes_of_store : ∀ op ∈ [Operation.sta, .stx, .sty], Mode.relative ∉ op.modes := by decide

/-- A store's address is that of its operand before the step: it is not relative to PC, which the step moves. -/
theorem exists_operandPlace_of_storedRegister {i : Instr} {s : State} {v : Byte}
    (h : storedRegister s i.operation = some v) :
    ∃ addr, operandAddr i.operand s = some addr ∧ operandPlace i.operand (resolved i.operand (beginStep s)) = addr := by
  have hop := mem_of_storedRegister h
  obtain ⟨addr, ha⟩ := operand_hasAddr (i := i) (List.mem_append_right [Operation.jmp, .jsr] hop) s
  have hmode : i.operand.mode ≠ .relative := fun hrel =>
    relative_not_mem_modes_of_store _ hop (hrel ▸ mode_mem_modes i)
  refine ⟨addr, ha, ?_⟩
  rw [operandPlace, operandAddr_resolved hmode, operandAddr_beginStep hmode, ha, Option.getD_some]

/-- Settles O48: the effect of a store is one write at the effective address, on the state past the instruction. -/
theorem storesWriteOneByte : Obligations.StoresWriteOneByte := by
  intro i s v h
  obtain ⟨addr, ha, hplace⟩ := exists_operandPlace_of_storedRegister h
  have hstored : storedRegister (resolved i.operand (beginStep s)) i.operation = some v := h
  have hexec : exec i s = .next (writeByte addr v (ranPast i s)) :=
    exec_of_effect (fun _ _ => rfl) (by rw [effectOf, effect_of_storedRegister hstored, hplace])
  refine ⟨addr, _, ha, hexec, ?_, fun b hb => ?_, rfl⟩
  · exact (readByte_writeByte addr addr v (ranPast i s)).trans (if_pos rfl)
  · exact (readByte_writeByte addr b v (ranPast i s)).trans (if_neg hb)

end Sys2Proof.Proofs
end

section
/-! SUPPORT. Faults, Reset and the cycle counts (60_exceptions.md, 70_reset_and_hazards.md): the step's two stops, the power-up
pattern, and the counters as functions of the instruction alone. -/

namespace Sys2Proof.Proofs

open Sys2Proof.Machine Sys2Proof.Claims

/-! ### The step's stops -/

/-- Settles O7: every instruction's next state is `after`. -/
theorem everyInstructionCompletes : Obligations.EveryInstructionCompletes := fun i s => ⟨_, exec_eq_after i s⟩

/-- Settles O5: a byte of the list has no row, and the step stops where it began its operation. -/
theorem invalidOpcodeFaults : Obligations.InvalidOpcodeFaults := by
  intro s hreset hinvalid
  unfold step fetchInstr
  rw [if_pos hreset]
  simp only [startStep_eq, decodeBytes, lookup_eq_none.2 hinvalid, Option.map_none]
  rfl

/-- A host store writes memory and nothing else (20_memory.md R61). -/
theorem platformStore_ok {address : Int} {v : Byte} {s t : State} (h : platformStore address v s = .ok t) :
    t = { s with mem := t.mem } := by
  unfold platformStore at h
  split at h
  · cases h
    rfl
  · cases h

/-- Settles O60: the fetch refuses before Reset, and nothing but Reset writes the mark. -/
theorem stepBeforeResetRefused : Obligations.StepBeforeResetRefused := by
  refine ⟨fun s h => ?_, fun _ => rfl, fun i s t h => ?_, fun address v s t h => ?_, fun _ _ => rfl⟩
  · simp only [step, fetchInstr, h, Bool.false_eq_true, if_false]
  · obtain rfl := eq_after h
    exact after_wasReset i s
  · rw [platformStore_ok h]

/-! ### Reset -/

/-- Below 0x2000 the cleared cells are the four offsets of each 2 KB (70_reset_and_hazards.md R311). -/
theorem mem_clearedCells_iff {addr : Word} (h : addr.toNat < 0x2000) :
    addr ∈ clearedCells ↔ addr.toNat % 0x800 = 0x008 ∨ addr.toNat % 0x800 = 0x009 ∨ addr.toNat % 0x800 = 0x00A ∨
      addr.toNat % 0x800 = 0x00F := by
  simp only [clearedCells, List.mem_cons, List.not_mem_nil, or_false, ← BitVec.toNat_inj, BitVec.reduceToNat]
  omega

/-- Settles O9: after Reset no cell is listed, so every address reads its power-up byte. -/
theorem resetMemoryPattern : Obligations.ResetMemoryPattern := by
  intro s addr
  show powerUpByte addr.toNat = _
  unfold powerUpByte
  split
  · rfl
  · next h => simp only [mem_clearedCells_iff (not_le.1 h), powerupClearedValue]

/-- P after Reset (10_state.md R50). -/
theorem packP_reset : packP State.reset = 0x36 := by decide

/-- Settles O8: the registers are those of the reset state, the memory is the pattern (O9). -/
theorem resetRegisters : Obligations.ResetRegisters := by
  intro s r
  refine ⟨fun _ => rfl, fun addr h => ?_, fun addr h hcell => ?_,
    rfl, rfl, rfl, rfl, rfl, rfl, rfl, rfl, rfl, rfl, rfl, rfl, packP_reset⟩
  · rw [resetMemoryPattern s addr, if_pos h]
  · rw [resetMemoryPattern s addr, if_neg (not_le.2 h), if_neg hcell]

/-- Settles O10: PC after Reset is 0x07FF, where the pattern holds 0xFF, an invalid byte (O5). -/
theorem firstStepAfterResetFaults : Obligations.FirstStepAfterResetFaults :=
  ⟨_, invalidOpcodeFaults State.reset rfl (by decide), rfl⟩

/-! ### The cycle counts -/

/-- No operation reads the cycle result of the step before. -/
theorem effect_setCycles (op : Operation) (acc : Bool) (m : Byte) (addr : Word) (t : State) (c : Nat) :
    effect op acc m addr { t with cycles := c } = { effect op acc m addr t with cycles := c } := by
  cases t
  cases op <;> rfl

theorem effectOf_setCycles (i : Instr) (t : State) (c : Nat) :
    effectOf i { t with cycles := c } = { effectOf i t with cycles := c } := by
  have hbyte : operandByte i.operand { t with cycles := c } = operandByte i.operand t :=
    congrArg (Option.getD · 0) (operandValue_congr rfl rfl rfl rfl i.operand)
  have hplace : operandPlace i.operand { t with cycles := c } = operandPlace i.operand t :=
    congrArg (Option.getD · 0) (operandAddr_congr rfl rfl rfl rfl i.operand)
  rw [effectOf, hbyte, hplace, effect_setCycles]
  rfl

/-- The step zeroes the counters and overwrites the cycle result, so none of the three matters (30_encoding.md R101). -/
theorem after_setCounters (i : Instr) (s : State) (m e c : Nat) :
    after i { s with memCycles := m, extraCycles := e, cycles := c } = after i s := by
  have hresolved : resolved i.operand (beginStep { s with memCycles := m, extraCycles := e, cycles := c }) =
      { resolved i.operand (beginStep s) with cycles := c } := by
    cases i.operand <;> rfl
  rw [after, hresolved, effectOf_setCycles]
  rfl

/-- Settles O57: the count of `after` with its bounds, and its independence of the counters before. -/
theorem cycleResult : Obligations.CycleResult := by
  intro i s
  obtain ⟨hmin, hmax⟩ := after_cycles_bounds i s
  refine ⟨after i s, exec_eq_after i s, after_cycles i s, after_memCycles_le i s, (after_extraCycles i s).1, hmin, hmax,
    fun m e c => ?_⟩
  rw [exec_eq_after, after_setCounters]

/-- A page-cross cycle is one exactly when the sum modulo 65536 has another high byte (40_addressing_modes.md R136). -/
theorem pageCross_cycle_eq_one_iff (w : Word) (x : Byte) :
    (if pageCross w (w + zext x) then 1 else 0) = 1 ↔ (w.toNat + x.toNat) % 65536 / 256 ≠ w.toNat / 256 := by
  rw [pageCross_cycle, toNat_add_zext]
  simp

/-- Only absolute-X and absolute-Y count it (40_addressing_modes.md R129, R130, decision D16). -/
theorem pagePenalty_eq_one_iff (o : Operand) (s : State) :
    pagePenalty o s = 1 ↔ ∃ w x, indexedBase s o = some (w, x) ∧
      (w.toNat + x.toNat) % 65536 / 256 ≠ w.toNat / 256 := by
  cases o
  case absoluteX w =>
    simpa [indexedBase, pagePenalty] using pageCross_cycle_eq_one_iff w s.x
  case absoluteY w =>
    simpa [indexedBase, pagePenalty] using pageCross_cycle_eq_one_iff w s.y
  all_goals exact iff_of_false nofun fun ⟨_, _, h, _⟩ => nomatch h

/-- Settles O58: `mem_cycles` is the operand's page-cross cycle, and only a branch counts extra cycles. -/
theorem penaltyCycles : Obligations.PenaltyCycles := by
  intro i s t h
  obtain rfl := eq_after h
  rw [after_memCycles]
  exact ⟨pagePenalty_eq_one_iff i.operand s, (after_extraCycles i s).2⟩

end Sys2Proof.Proofs
end
